-- ==== Sys2Proof/Word.lean ====
section
/-! DEFINITION. Word.lean: the identifiers and the plain integer arithmetic of the manual's
"Conventions" (spec/00_scope.md). Every quantity is an integer; only the bytes of the line link and
the attention flag word are bits. -/

namespace Sys2Proof

/-- A byte on the line link (spec/11, R172). -/
abbrev Byte := BitVec 8

/-- Zones are numbered 0 to 11 (spec/00, "Identifiers and names"). -/
abbrev ZoneId := Fin 12

/-- Recipes are numbered 0 to 15 (spec/00). -/
abbrev RecipeId := Fin 16

/-- Priority levels are numbered 0 (served first) to 3 (spec/00). -/
abbrev Level := Fin 4

/-- "Saturate": a counter that saturates stays at its highest value once it reaches it (spec/00). -/
def satAdd (top n k : Nat) : Nat := min top (n + k)

/-- "Clamp" a value into `lo` to `hi` (spec/00), for unsigned values. -/
def clampNat (lo hi n : Nat) : Nat := max lo (min hi n)

/-- "Clamp" a value into `lo` to `hi` (spec/00), for signed values. -/
def clampInt (lo hi n : Int) : Int := max lo (min hi n)

/-- "Rounded up": the least integer not below the exact quotient (spec/00). -/
def ceilDiv (n d : Nat) : Nat := (n + d - 1) / d

end Sys2Proof
end

