-- ==== Sys2Proof/Syntax.lean ====
section
/-! DEFINITION. Syntax.lean: the commands of the BT40, one constructor for each row of
spec/opcode_table.json, in the table's order.

The sender is everything outside the block that decides WHICH event is taken next (log entry 1): the
line controller's transactions, the transitions of the discrete inputs, the messages of the inverters
and of the pyrometer, the expiries of timers, and the taking of a message that another block of the
part has sent. A message between blocks is held in State from its sending to its taking, so a row that
takes one carries no content: it names the receiving channel, and the content is what State holds.

`clocked` is the number of complete bytes of the transaction (R172): it decides whether the response
in the buffer is fetched (R175). -/

namespace Sys2Proof

/-- A transition of a discrete edge input (R181): inactive to active, or active to inactive. -/
inductive Transition where
  | rising
  | falling
deriving DecidableEq, Repr

/-- The levels of the part's inputs: `true` is active (asserted). -/
structure Levels where
  pushFwd : Bool
  pushHome : Bool
  take : Bool
  pressDone : Bool
  chuteDone : Bool
  pressReady : Bool
  feederFault : Bool
  ctrlReset : Bool
deriving DecidableEq, Repr

/-- The check of R173 that a request frame fails, in the order of its table. -/
inductive FrameCheck where
  /-- Check 1: too short, a length byte above 60, or too few bytes for its length byte. -/
  | frameLength
  /-- Check 2: the CRC byte is not the CRC-8 of code, length and payload. -/
  | crc
  /-- Check 3: the code names no request of the catalogue. -/
  | requestCode
  /-- Check 4: the length is not the catalogue's payload length for the request. -/
  | payloadLength
deriving DecidableEq, Repr

/-- The stored fields of a recipe (section 2.2), as WRITE_RECIPE carries them and as the table stores
them. -/
structure RecipeFields where
  cp : Nat
  sLow : Nat
  sHigh : Nat
  /-- The equalization coefficient g (R23). -/
  equalization : Nat
  /-- The surface loss coefficient l (R23). -/
  loss : Nat
  zoneTarget : Vector Nat 12
  holdTemp : Nat
  exitTarget : Nat
  tolLow : Nat
  tolHigh : Nat
  tsMax : Nat
  gradMax : Nat
  maxSoak : Nat
  maxWait : Nat
  adaptGain : Nat
deriving DecidableEq, Repr

/-- The fields SET_ZONE carries after the zone number (R79); `enabled` and `band` are choice bytes. -/
structure ZoneFields where
  firstPos : Nat
  lastPos : Nat
  maxKW : Nat
  minKW : Nat
  level : Nat
  enabled : Nat
  band : Nat
deriving DecidableEq, Repr

/-- The seven values SET_LINE carries (R162); a value whose part is absent is carried and ignored. -/
structure LineFields where
  feederLimit : Nat
  nominalCadence : Nat
  queueLow : Nat
  tAmb : Nat
  holdDelay : Nat
  transferTimeout : Nat
  tuningWindow : Nat
deriving DecidableEq, Repr

/-- The five selection bytes SET_EDGES carries (R181). -/
structure EdgeFields where
  pushFwd : Nat
  pushHome : Nat
  take : Nat
  pressDone : Nat
  chuteDone : Nat
deriving DecidableEq, Repr

/-- The two edges of power-on reset (R165): it begins to hold the part, or releases it with the input
levels that stand then. -/
inductive PowerOnEdge where
  | held
  | released (levels : Levels)
deriving DecidableEq, Repr

/-- The commands: one constructor for each row of spec/opcode_table.json. -/
inductive Instr where
  /-- POWER_ON_RESET (R165): the release of power-on reset, with the input levels read at it; or the
  beginning of the interval in which it holds the part, for which the table has no row of its own (log
  entry 14). -/
  | powerOnReset (edge : PowerOnEdge)
  /-- CTRL_RESET_ASSERTED (R166). -/
  | ctrlResetAsserted
  /-- RESTART_RELEASE (R169); `retireFirst` says which of the two orders of R169 is taken: the
  retirement of a transfer in flight before the catch-up, or after it. -/
  | restartRelease (retireFirst : Bool)
  /-- FRAME_ERROR (R173): a transaction whose request frame fails the named check. -/
  | frameError (check : FrameCheck) (clocked : Nat)
  /-- NOP (R175). -/
  | nop (clocked : Nat)
  /-- READ_STATUS (R176). -/
  | readStatus (clocked : Nat)
  /-- LOAD_BILLET (R11, R12). -/
  | loadBillet (clocked tag recipe mass initial : Nat)
  /-- QUERY_BILLET (R14). -/
  | queryBillet (clocked tag : Nat)
  /-- QUERY_POSITION (R15). -/
  | queryPosition (clocked position : Nat)
  /-- QUERY_ROW (R15). -/
  | queryRow (clocked : Nat)
  /-- AMEND_BILLET (R16, R17); `parts` is the parts-present byte of section 11.3. -/
  | amendBillet (clocked tag parts : Nat) (offset : Int) (recipe : Nat)
  /-- WITHDRAW_BILLET (R18). -/
  | withdrawBillet (clocked tag : Nat)
  /-- READ_LAST_RETIRED (R21). -/
  | readLastRetired (clocked clearCounters : Nat)
  /-- WRITE_RECIPE (R31, R32). -/
  | writeRecipe (clocked recipe validity : Nat) (fields : RecipeFields)
  /-- READ_RECIPE (R34). -/
  | readRecipe (clocked recipe : Nat)
  /-- RESET_BIAS (R36); selection 255 is ALL. -/
  | resetBias (clocked selection : Nat)
  /-- SET_ZONE (R79, R80). -/
  | setZone (clocked zone : Nat) (fields : ZoneFields)
  /-- READ_ZONE (R100). -/
  | readZone (clocked zone : Nat)
  /-- SET_ZONE_BAND (R97). -/
  | setZoneBand (clocked zone band : Nat)
  /-- CLEAR_ZONE_FAULT (R90). -/
  | clearZoneFault (clocked zone : Nat)
  /-- SET_ROW_LENGTH (R60). -/
  | setRowLength (clocked value : Nat)
  /-- SET_LINE (R162); `parts` is the parts-present byte of section 11.3. -/
  | setLine (clocked parts : Nat) (fields : LineFields)
  /-- READ_LINE (R177). -/
  | readLine (clocked : Nat)
  /-- MODE_START (R152). `unnamed` is `none` for the action START; it is `some b` for a MODE request
  whose action byte `b` names no action, which R151 refuses with BAD_VALUE and for which the table has
  no row of its own (log entry 8). -/
  | modeStart (clocked : Nat) (unnamed : Option Nat)
  /-- MODE_HOLD (R149). -/
  | modeHold (clocked : Nat)
  /-- MODE_RESUME (R149). -/
  | modeResume (clocked : Nat)
  /-- MODE_DRAIN (R153). -/
  | modeDrain (clocked : Nat)
  /-- MODE_TRIP (R158). -/
  | modeTrip (clocked : Nat)
  /-- MODE_CLEAR_TRIP (R159). -/
  | modeClearTrip (clocked : Nat)
  /-- MODE_SERVICE (R160). -/
  | modeService (clocked : Nat)
  /-- MODE_LEAVE_SERVICE (R160). -/
  | modeLeaveService (clocked : Nat)
  /-- TUNE_ALL (R129). -/
  | tuneAll (clocked : Nat)
  /-- ACK_ATTENTION (R179). -/
  | ackAttention (clocked flagSet : Nat)
  /-- SET_MASKS (R180). -/
  | setMasks (clocked maskSet : Nat)
  /-- SET_EDGES (R181). -/
  | setEdges (clocked : Nat) (fields : EdgeFields)
  /-- RESTART (R166). -/
  | restart (clocked : Nat)
  /-- STROKE_BEGIN (R62): a transition of PUSH_FWD. -/
  | strokeBegin (t : Transition)
  /-- STROKE_END (R64, R63): a transition of PUSH_HOME. -/
  | strokeEnd (t : Transition)
  /-- STROKE_TIMER_EXPIRY (R65). -/
  | strokeTimerExpiry
  /-- TAKE_EDGE (R140): a transition of TAKE. -/
  | takeEdge (t : Transition)
  /-- PRESS_DONE_EDGE (R142, R144): a transition of PRESS_DONE. -/
  | pressDoneEdge (t : Transition)
  /-- CHUTE_DONE_EDGE (R143, R144): a transition of CHUTE_DONE. -/
  | chuteDoneEdge (t : Transition)
  /-- TRANSFER_TIMER_EXPIRY (R142, R143). -/
  | transferTimerExpiry
  /-- PRESS_READY_CHANGE (R155): the new level. -/
  | pressReadyChange (active : Bool)
  /-- AUTO_HOLD_EXPIRY (R155). -/
  | autoHoldExpiry
  /-- FEEDER_FAULT_CHANGE (R157): the new level. -/
  | feederFaultChange (active : Bool)
  /-- PYROMETER_READING (R134): the value and the validity mark. -/
  | pyrometerReading (value : Nat) (valid : Bool)
  /-- MEASUREMENT_WINDOW_EXPIRY (R135). -/
  | measurementWindowExpiry
  /-- STEP_NOTICE (R138): the exit station takes the oldest step notice sent to it. -/
  | stepNotice
  /-- MARK_NOTICE (R139): the exit station takes the oldest mark notice sent to it. -/
  | markNotice
  /-- ADAPTATION_UPDATE (R35): the recipe table takes the oldest adaptation update sent to it. -/
  | adaptationUpdate
  /-- ROUND_BOUNDARY (R101). -/
  | roundBoundary
  /-- ENERGY_REPORT (R41): the heat model unit takes the zone's oldest held energy report. -/
  | energyReport (zone : ZoneId)
  /-- UNHEATED_REPORT (R40): the heat model unit takes the oldest held unheated report. -/
  | unheatedReport
  /-- IDLE_CREDIT (R96): the zone channel takes the oldest idle credit sent to it. -/
  | idleCredit (zone : ZoneId)
  /-- DEMAND_REPORT (R103): the arbiter takes the zone's oldest demand report. -/
  | demandReport (zone : ZoneId)
  /-- GRANT (R91): the zone channel takes the oldest grant sent to it. -/
  | grant (zone : ZoneId)
  /-- ROUND_NOTICE (R125): the tuning sequencer takes the oldest round notice. -/
  | roundNotice
  /-- TUNE_ORDER (R87): the zone channel takes the oldest tune order sent to it. -/
  | tuneOrder (zone : ZoneId)
  /-- TUNE_OUTCOME (R127): the tuning sequencer takes the zone's oldest tuning outcome. -/
  | tuneOutcome (zone : ZoneId)
  /-- INVERTER_RUNNING (R85). -/
  | inverterRunning (zone : ZoneId)
  /-- INVERTER_TUNED (R88): the efficiency carried. -/
  | inverterTuned (zone : ZoneId) (efficiency : Nat)
  /-- INVERTER_FAULT (R89): the inverter fault code. -/
  | inverterFault (zone : ZoneId) (code : Nat)
  /-- INVERTER_HEALTHY (R82). -/
  | inverterHealthy (zone : ZoneId)
  /-- STRAY_REPORT (R82): a message the port cannot read as a whole. -/
  | strayReport (zone : ZoneId)
  /-- START_TIMEOUT (R85). -/
  | startTimeout (zone : ZoneId)
  /-- RECOVERY_EXPIRY (R86). -/
  | recoveryExpiry (zone : ZoneId)
  /-- TUNE_TIMEOUT (R88). -/
  | tuneTimeout (zone : ZoneId)
deriving DecidableEq, Repr

end Sys2Proof
end

