-- ==== Sys2Proof/WellFormed.lean ====
section
/-! DEFINITION. WellFormed.lean: the ranges the wire gives a command's operands (section 11.3's
payload widths, R82's efficiency and fault code, R134's reading value) and, for a request, that the
transaction carried at least its whole frame (R173). A range CHECK that a rule answers with a status
(BAD_VALUE and the like) is no well-formedness: the meaning makes it. -/

namespace Sys2Proof

/-- One byte of payload. -/
def isU8 (n : Nat) : Bool := n < 256

/-- Two bytes of payload, marked (2) in section 11.3. -/
def isU16 (n : Nat) : Bool := n < 65536

/-- Four bytes of payload, marked (4) in section 11.3. -/
def isU32 (n : Nat) : Bool := n < 4294967296

/-- Two bytes of payload holding a signed field, two's complement (section 11.3). -/
def isI16 (n : Int) : Bool := -32768 ≤ n && n ≤ 32767

/-- A transaction that carried a whole frame with `payload` bytes of payload (R173, check 1). -/
def carries (payload clocked : Nat) : Bool := payload + 3 ≤ clocked

/-- The fifteen fields of WRITE_RECIPE, each carried in two bytes (section 11.3). -/
def RecipeFields.onWire (f : RecipeFields) : Bool :=
  isU16 f.cp && isU16 f.sLow && isU16 f.sHigh && isU16 f.equalization && isU16 f.loss
    && f.zoneTarget.toList.all isU16
    && isU16 f.holdTemp && isU16 f.exitTarget && isU16 f.tolLow && isU16 f.tolHigh
    && isU16 f.tsMax && isU16 f.gradMax && isU16 f.maxSoak && isU16 f.maxWait && isU16 f.adaptGain

/-- The fields of SET_ZONE on the wire (section 11.3). -/
def ZoneFields.onWire (f : ZoneFields) : Bool :=
  isU16 f.firstPos && isU16 f.lastPos && isU16 f.maxKW && isU16 f.minKW && isU16 f.level
    && isU8 f.enabled && isU8 f.band

/-- The seven values of SET_LINE on the wire (section 11.3). -/
def LineFields.onWire (f : LineFields) : Bool :=
  isU16 f.feederLimit && isU16 f.nominalCadence && isU16 f.queueLow && isU16 f.tAmb
    && isU16 f.holdDelay && isU16 f.transferTimeout && isU16 f.tuningWindow

/-- The five selection bytes of SET_EDGES on the wire (section 11.3). -/
def EdgeFields.onWire (f : EdgeFields) : Bool :=
  isU8 f.pushFwd && isU8 f.pushHome && isU8 f.take && isU8 f.pressDone && isU8 f.chuteDone

/-- A MODE action byte that names no action: 8 to 255 (R151, section 11.8). -/
def unnamedAction : Option Nat → Bool
  | none => true
  | some b => 8 ≤ b && b < 256

/-- The operands of a command lie in the ranges the wire and the ports can carry. -/
def wellFormed : Instr → Bool
  | .powerOnReset _ => true
  | .ctrlResetAsserted => true
  | .restartRelease _ => true
  | .frameError .frameLength clocked => 1 ≤ clocked
  | .frameError .crc clocked => carries 0 clocked
  | .frameError .requestCode clocked => carries 0 clocked
  | .frameError .payloadLength clocked => carries 0 clocked
  | .nop clocked => carries 0 clocked
  | .readStatus clocked => carries 0 clocked
  | .loadBillet clocked tag recipe mass initial =>
      carries 9 clocked && isU16 tag && isU8 recipe && isU32 mass && isU16 initial
  | .queryBillet clocked tag => carries 2 clocked && isU16 tag
  | .queryPosition clocked position => carries 1 clocked && isU8 position
  | .queryRow clocked => carries 0 clocked
  | .amendBillet clocked tag parts offset recipe =>
      carries 6 clocked && isU16 tag && isU8 parts && isI16 offset && isU8 recipe
  | .withdrawBillet clocked tag => carries 2 clocked && isU16 tag
  | .readLastRetired clocked clear => carries 1 clocked && isU8 clear
  | .writeRecipe clocked recipe validity fields =>
      carries 54 clocked && isU8 recipe && isU8 validity && fields.onWire
  | .readRecipe clocked recipe => carries 1 clocked && isU8 recipe
  | .resetBias clocked selection => carries 1 clocked && isU8 selection
  | .setZone clocked zone fields => carries 13 clocked && isU8 zone && fields.onWire
  | .readZone clocked zone => carries 1 clocked && isU8 zone
  | .setZoneBand clocked zone band => carries 2 clocked && isU8 zone && isU8 band
  | .clearZoneFault clocked zone => carries 1 clocked && isU8 zone
  | .setRowLength clocked value => carries 1 clocked && isU8 value
  | .setLine clocked parts fields => carries 15 clocked && isU8 parts && fields.onWire
  | .readLine clocked => carries 0 clocked
  | .modeStart clocked unnamed => carries 1 clocked && unnamedAction unnamed
  | .modeHold clocked => carries 1 clocked
  | .modeResume clocked => carries 1 clocked
  | .modeDrain clocked => carries 1 clocked
  | .modeTrip clocked => carries 1 clocked
  | .modeClearTrip clocked => carries 1 clocked
  | .modeService clocked => carries 1 clocked
  | .modeLeaveService clocked => carries 1 clocked
  | .tuneAll clocked => carries 0 clocked
  | .ackAttention clocked flagSet => carries 2 clocked && isU16 flagSet
  | .setMasks clocked maskSet => carries 2 clocked && isU16 maskSet
  | .setEdges clocked fields => carries 5 clocked && fields.onWire
  | .restart clocked => carries 0 clocked
  | .strokeBegin _ => true
  | .strokeEnd _ => true
  | .strokeTimerExpiry => true
  | .takeEdge _ => true
  | .pressDoneEdge _ => true
  | .chuteDoneEdge _ => true
  | .transferTimerExpiry => true
  | .pressReadyChange _ => true
  | .autoHoldExpiry => true
  | .feederFaultChange _ => true
  | .pyrometerReading value _ => isU16 value
  | .measurementWindowExpiry => true
  | .stepNotice => true
  | .markNotice => true
  | .adaptationUpdate => true
  | .roundBoundary => true
  | .energyReport _ => true
  | .unheatedReport => true
  | .idleCredit _ => true
  | .demandReport _ => true
  | .grant _ => true
  | .roundNotice => true
  | .tuneOrder _ => true
  | .tuneOutcome _ => true
  | .inverterRunning _ => true
  | .inverterTuned _ efficiency => efficiency ≤ 1000
  | .inverterFault _ code => isU8 code
  | .inverterHealthy _ => true
  | .strayReport _ => true
  | .startTimeout _ => true
  | .recoveryExpiry _ => true
  | .tuneTimeout _ => true

end Sys2Proof
end

