-- ==== Sys2Proof/Decode.lean ====
section
/-! DEFINITION. Decode.lean: the request frame of the line link (spec/11): its CRC-8 (R174), the
request catalogue (section 11.3), the reading of a transaction's bytes as a command (R172, R173) and
the frame a request is sent in. The rows of spec/opcode_table.json give no bits, so `decodeTableWord`
spells none of them. -/

namespace Sys2Proof

/-- The command that a word spells by the bits of spec/opcode_table.json: its 68 rows give none. -/
def decodeTableWord (_nbits _w : Nat) : Option Instr := none

/-! ## Bytes and the CRC-8 -/

/-- The CRC-8 of one more byte: exclusive or, then eight shifts, each combined with 7 when the bit
shifted out was 1 (R174). -/
def crcByte (crc b : Byte) : Byte :=
  (List.range 8).foldl
    (fun c _ => if c.msb then (c <<< 1) ^^^ 7 else c <<< 1) (crc ^^^ b)

/-- The CRC-8 of the link: polynomial x⁸ + x² + x + 1, initial value 0 (R174). -/
def crc8 (bytes : List Byte) : Byte := bytes.foldl crcByte 0

/-- A byte. -/
def byte (n : Nat) : Byte := BitVec.ofNat 8 n

/-- Two bytes, most significant first (section 11.3). -/
def bytes16 (n : Nat) : List Byte := [byte (n / 256), byte n]

/-- Four bytes, most significant first (section 11.3). -/
def bytes32 (n : Nat) : List Byte :=
  [byte (n / 16777216), byte (n / 65536), byte (n / 256), byte n]

/-- Two bytes of a signed field, two's complement (section 11.3). -/
def bytesI16 (n : Int) : List Byte := bytes16 (n % 65536).toNat

/-! ## Reading payload fields (section 11.3) -/

/-- The payload byte at a place. -/
def u8 (payload : List Byte) (at0 : Nat) : Nat := (payload.getD at0 0).toNat

/-- The two-byte field at a place, most significant byte first. -/
def u16 (payload : List Byte) (at0 : Nat) : Nat := 256 * u8 payload at0 + u8 payload (at0 + 1)

/-- The four-byte field at a place, most significant byte first. -/
def u32 (payload : List Byte) (at0 : Nat) : Nat :=
  65536 * u16 payload at0 + u16 payload (at0 + 2)

/-- The signed two-byte field at a place, two's complement. -/
def i16 (payload : List Byte) (at0 : Nat) : Int :=
  let n := u16 payload at0
  if n < 32768 then n else (n : Int) - 65536

/-- WRITE_RECIPE's fields, from its third payload byte on (section 11.3). -/
def recipeFieldsAt (p : List Byte) : RecipeFields :=
  { cp := u16 p 2, sLow := u16 p 4, sHigh := u16 p 6, equalization := u16 p 8, loss := u16 p 10,
    zoneTarget := Vector.ofFn fun z => u16 p (12 + 2 * z.val),
    holdTemp := u16 p 36, exitTarget := u16 p 38, tolLow := u16 p 40, tolHigh := u16 p 42,
    tsMax := u16 p 44, gradMax := u16 p 46, maxSoak := u16 p 48, maxWait := u16 p 50,
    adaptGain := u16 p 52 }

/-- SET_ZONE's fields, from its second payload byte on (section 11.3). -/
def zoneFieldsAt (p : List Byte) : ZoneFields :=
  { firstPos := u16 p 1, lastPos := u16 p 3, maxKW := u16 p 5, minKW := u16 p 7, level := u16 p 9,
    enabled := u8 p 11, band := u8 p 12 }

/-- SET_LINE's values, from its second payload byte on (section 11.3). -/
def lineFieldsAt (p : List Byte) : LineFields :=
  { feederLimit := u16 p 1, nominalCadence := u16 p 3, queueLow := u16 p 5, tAmb := u16 p 7,
    holdDelay := u16 p 9, transferTimeout := u16 p 11, tuningWindow := u16 p 13 }

/-- SET_EDGES's selections (section 11.3). -/
def edgeFieldsAt (p : List Byte) : EdgeFields :=
  { pushFwd := u8 p 0, pushHome := u8 p 1, take := u8 p 2, pressDone := u8 p 3, chuteDone := u8 p 4 }

/-- The MODE request by its action byte (section 11.8); a byte above 7 names no action (R151). -/
def modeRequest (clocked : Nat) : Nat → Instr
  | 0 => .modeStart clocked none
  | 1 => .modeHold clocked
  | 2 => .modeResume clocked
  | 3 => .modeDrain clocked
  | 4 => .modeTrip clocked
  | 5 => .modeClearTrip clocked
  | 6 => .modeService clocked
  | 7 => .modeLeaveService clocked
  | n => .modeStart clocked (some n)

/-- The payload length the catalogue gives a request code; `none` for a code that names no request
(section 11.3). -/
def payloadLength : Nat → Option Nat
  | 0 => some 0
  | 1 => some 0
  | 2 => some 9
  | 3 => some 2
  | 4 => some 1
  | 5 => some 0
  | 6 => some 6
  | 7 => some 2
  | 8 => some 1
  | 9 => some 54
  | 10 => some 1
  | 11 => some 1
  | 12 => some 13
  | 13 => some 1
  | 14 => some 2
  | 15 => some 1
  | 16 => some 1
  | 17 => some 15
  | 18 => some 0
  | 19 => some 1
  | 20 => some 0
  | 21 => some 2
  | 22 => some 2
  | 23 => some 5
  | 24 => some 0
  | _ => none

/-- The request of a code with its payload (section 11.3). -/
def requestOf (clocked code : Nat) (p : List Byte) : Instr :=
  match code with
  | 0 => .nop clocked
  | 1 => .readStatus clocked
  | 2 => .loadBillet clocked (u16 p 0) (u8 p 2) (u32 p 3) (u16 p 7)
  | 3 => .queryBillet clocked (u16 p 0)
  | 4 => .queryPosition clocked (u8 p 0)
  | 5 => .queryRow clocked
  | 6 => .amendBillet clocked (u16 p 0) (u8 p 2) (i16 p 3) (u8 p 5)
  | 7 => .withdrawBillet clocked (u16 p 0)
  | 8 => .readLastRetired clocked (u8 p 0)
  | 9 => .writeRecipe clocked (u8 p 0) (u8 p 1) (recipeFieldsAt p)
  | 10 => .readRecipe clocked (u8 p 0)
  | 11 => .resetBias clocked (u8 p 0)
  | 12 => .setZone clocked (u8 p 0) (zoneFieldsAt p)
  | 13 => .readZone clocked (u8 p 0)
  | 14 => .setZoneBand clocked (u8 p 0) (u8 p 1)
  | 15 => .clearZoneFault clocked (u8 p 0)
  | 16 => .setRowLength clocked (u8 p 0)
  | 17 => .setLine clocked (u8 p 0) (lineFieldsAt p)
  | 18 => .readLine clocked
  | 19 => modeRequest clocked (u8 p 0)
  | 20 => .tuneAll clocked
  | 21 => .ackAttention clocked (u16 p 0)
  | 22 => .setMasks clocked (u16 p 0)
  | 23 => .setEdges clocked (edgeFieldsAt p)
  | 24 => .restart clocked
  | _ => .frameError .requestCode clocked

/-- The command a transaction that carried at least one complete byte makes: the frame is checked in
the order of R173, and bytes beyond its end are ignored (R172). -/
def decodeFrame (bytes : List Byte) : Instr :=
  let clocked := bytes.length
  let code := u8 bytes 0
  let n := u8 bytes 1
  let p := (bytes.drop 2).take n
  if clocked < 3 || 60 < n || clocked < n + 3 then .frameError .frameLength clocked
  else if bytes.getD (n + 2) 0 ≠ crc8 (bytes.take (n + 2)) then .frameError .crc clocked
  else
    match payloadLength code with
    | none => .frameError .requestCode clocked
    | some m => if n = m then requestOf clocked code p else .frameError .payloadLength clocked

/-- The command a transaction makes by the bytes taken in; none without a complete byte (R172). -/
def decodeTransaction (bytes : List Byte) : Option Instr :=
  if bytes.length = 0 then none else some (decodeFrame bytes)

/-! ## The frame of a request -/

/-- WRITE_RECIPE's fields as payload bytes (section 11.3). -/
def RecipeFields.bytes (f : RecipeFields) : List Byte :=
  bytes16 f.cp ++ bytes16 f.sLow ++ bytes16 f.sHigh ++ bytes16 f.equalization ++ bytes16 f.loss
    ++ f.zoneTarget.toList.flatMap bytes16
    ++ bytes16 f.holdTemp ++ bytes16 f.exitTarget ++ bytes16 f.tolLow ++ bytes16 f.tolHigh
    ++ bytes16 f.tsMax ++ bytes16 f.gradMax ++ bytes16 f.maxSoak ++ bytes16 f.maxWait
    ++ bytes16 f.adaptGain

/-- SET_ZONE's fields as payload bytes (section 11.3). -/
def ZoneFields.bytes (f : ZoneFields) : List Byte :=
  bytes16 f.firstPos ++ bytes16 f.lastPos ++ bytes16 f.maxKW ++ bytes16 f.minKW ++ bytes16 f.level
    ++ [byte f.enabled, byte f.band]

/-- SET_LINE's values as payload bytes (section 11.3). -/
def LineFields.bytes (f : LineFields) : List Byte :=
  bytes16 f.feederLimit ++ bytes16 f.nominalCadence ++ bytes16 f.queueLow ++ bytes16 f.tAmb
    ++ bytes16 f.holdDelay ++ bytes16 f.transferTimeout ++ bytes16 f.tuningWindow

/-- SET_EDGES's selections as payload bytes (section 11.3). -/
def EdgeFields.bytes (f : EdgeFields) : List Byte :=
  [byte f.pushFwd, byte f.pushHome, byte f.take, byte f.pressDone, byte f.chuteDone]

/-- The code and payload of a request, with the bytes its transaction clocks; `none` for a command that
is no request of the catalogue (section 11.3). -/
def requestParts : Instr → Option (Nat × Nat × List Byte)
  | .nop c => some (c, 0, [])
  | .readStatus c => some (c, 1, [])
  | .loadBillet c tag recipe mass initial =>
      some (c, 2, bytes16 tag ++ [byte recipe] ++ bytes32 mass ++ bytes16 initial)
  | .queryBillet c tag => some (c, 3, bytes16 tag)
  | .queryPosition c position => some (c, 4, [byte position])
  | .queryRow c => some (c, 5, [])
  | .amendBillet c tag parts offset recipe =>
      some (c, 6, bytes16 tag ++ [byte parts] ++ bytesI16 offset ++ [byte recipe])
  | .withdrawBillet c tag => some (c, 7, bytes16 tag)
  | .readLastRetired c clear => some (c, 8, [byte clear])
  | .writeRecipe c recipe validity fields =>
      some (c, 9, [byte recipe, byte validity] ++ fields.bytes)
  | .readRecipe c recipe => some (c, 10, [byte recipe])
  | .resetBias c selection => some (c, 11, [byte selection])
  | .setZone c zone fields => some (c, 12, [byte zone] ++ fields.bytes)
  | .readZone c zone => some (c, 13, [byte zone])
  | .setZoneBand c zone band => some (c, 14, [byte zone, byte band])
  | .clearZoneFault c zone => some (c, 15, [byte zone])
  | .setRowLength c value => some (c, 16, [byte value])
  | .setLine c parts fields => some (c, 17, [byte parts] ++ fields.bytes)
  | .readLine c => some (c, 18, [])
  | .modeStart c none => some (c, 19, [byte 0])
  | .modeStart c (some b) => some (c, 19, [byte b])
  | .modeHold c => some (c, 19, [byte 1])
  | .modeResume c => some (c, 19, [byte 2])
  | .modeDrain c => some (c, 19, [byte 3])
  | .modeTrip c => some (c, 19, [byte 4])
  | .modeClearTrip c => some (c, 19, [byte 5])
  | .modeService c => some (c, 19, [byte 6])
  | .modeLeaveService c => some (c, 19, [byte 7])
  | .tuneAll c => some (c, 20, [])
  | .ackAttention c flagSet => some (c, 21, bytes16 flagSet)
  | .setMasks c maskSet => some (c, 22, bytes16 maskSet)
  | .setEdges c fields => some (c, 23, fields.bytes)
  | .restart c => some (c, 24, [])
  | .powerOnReset _ => none
  | .ctrlResetAsserted => none
  | .restartRelease _ => none
  | .frameError _ _ => none
  | .strokeBegin _ => none
  | .strokeEnd _ => none
  | .strokeTimerExpiry => none
  | .takeEdge _ => none
  | .pressDoneEdge _ => none
  | .chuteDoneEdge _ => none
  | .transferTimerExpiry => none
  | .pressReadyChange _ => none
  | .autoHoldExpiry => none
  | .feederFaultChange _ => none
  | .pyrometerReading _ _ => none
  | .measurementWindowExpiry => none
  | .stepNotice => none
  | .markNotice => none
  | .adaptationUpdate => none
  | .roundBoundary => none
  | .energyReport _ => none
  | .unheatedReport => none
  | .idleCredit _ => none
  | .demandReport _ => none
  | .grant _ => none
  | .roundNotice => none
  | .tuneOrder _ => none
  | .tuneOutcome _ => none
  | .inverterRunning _ => none
  | .inverterTuned _ _ => none
  | .inverterFault _ _ => none
  | .inverterHealthy _ => none
  | .strayReport _ => none
  | .startTimeout _ => none
  | .recoveryExpiry _ => none
  | .tuneTimeout _ => none

/-- A request frame: code, length, payload, CRC-8 (section 11.8). -/
def requestFrame (code : Nat) (payload : List Byte) : List Byte :=
  let body := byte code :: byte payload.length :: payload
  body ++ [crc8 body]

/-- The bytes of the transaction that sends a request: its frame, and zeros up to the number of bytes
clocked (R172); `none` for a command that is no request. -/
def encodeRequest (i : Instr) : Option (List Byte) :=
  (requestParts i).map fun (clocked, code, payload) =>
    let frame := requestFrame code payload
    frame ++ List.replicate (clocked - frame.length) 0

end Sys2Proof
end

