-- ==== Sys2Proof/Machine/Types.lean ====
section
/-! DEFINITION. Machine/Types.lean: the value sets, records and messages of the BT40 as plain data,
block by block, and the responses the line link can hold. -/

namespace Sys2Proof.Machine

/-! ## Billet records (spec/01) -/

/-- Where a live record is (R2). The position is present exactly when the place is ROW, so it is part
of that value. -/
inductive Place where
  | queued
  | row (position : Nat)
  | exit
deriving DecidableEq, Repr

/-- The ten outcomes (section 1.7), in the order of section 11.8's codes 1 to 10. -/
inductive BilletOutcome where
  | forged
  | rejectedCold
  | rejectedHot
  | rejectedFlagged
  | rejectedCooled
  | noReading
  | transferLost
  | transferUnknown
  | pushedOff
  | withdrawn
deriving DecidableEq, Repr

/-- The flag set of a record (R5): a set of four flags, so it holds no flag twice. -/
structure BilletFlags where
  marked : Bool
  overheat : Bool
  soakExceeded : Bool
  stale : Bool
deriving DecidableEq, Repr

/-- A live record: the fields of R1 to R6. -/
structure BilletRecord where
  tag : Nat
  loadSeq : Nat
  recipe : RecipeId
  mass : Nat
  place : Place
  ts : Nat
  tc : Nat
  targetOffset : Int
  energy : Nat
  rowsRounds : Nat
  soakRounds : Nat
  flags : BilletFlags
  measured : Option Nat
  outcome : Option BilletOutcome
deriving DecidableEq, Repr

/-- A record as a message names it: tag together with load_seq (R8). -/
structure RecordRef where
  tag : Nat
  loadSeq : Nat
deriving DecidableEq, Repr

/-- A snapshot of a record (R14): its fields, and the queue index while it is QUEUED. -/
structure Snapshot where
  record : BilletRecord
  queueIndex : Option Nat
deriving DecidableEq, Repr

/-- The record pool (R7, R9, R20, R21). `records` are the live records in the order of their creation,
at most one for each of the 64 pool entries; which entry a record uses cannot be seen from outside
(R7), so entries carry no number. A reference to a record is its tag, which no two live records
share. `outcomes` holds the ten counters of R21. -/
structure Pool where
  records : List BilletRecord
  queue : List Nat
  loadCounter : Nat
  lastRetired : Option BilletRecord
  outcomes : Vector Nat 10
deriving DecidableEq, Repr

/-! ## Recipes (spec/02) -/

/-- One entry of the recipe table (R22): stored fields, validity, learned part and user count. -/
structure Recipe where
  valid : Bool
  fields : RecipeFields
  bias : Int
  adaptCount : Nat
  users : Nat
deriving DecidableEq, Repr

/-! ## Zones and inverter ports (spec/05) -/

/-- The frequency band of a zone. -/
inductive Band where
  | low
  | high
deriving DecidableEq, Repr

/-- The six zone states (R83). -/
inductive ZoneState where
  | off
  | starting
  | on
  | stopping
  | tuning
  | faulted
deriving DecidableEq, Repr

/-- The kinds of report an inverter sends (R82). -/
inductive ReportKind where
  | running
  | tuned
  | fault
  | healthy
deriving DecidableEq, Repr

/-- Fault causes (R89). -/
inductive FaultCause where
  | inverter
  | startTimeout
  | tuneRange
  | tuneTimeout
deriving DecidableEq, Repr

/-- The commands a zone channel sends its inverter (R81). -/
inductive InverterCommand where
  | run (setpoint : Nat) (band : Band)
  | setpoint (value : Nat)
  | stop
  | tune (band : Band)
deriving DecidableEq, Repr

/-- A zone map entry (R78). -/
structure ZoneMap where
  firstPos : Nat
  lastPos : Nat
  maxKW : Nat
  minKW : Nat
  level : Level
  enabled : Bool
deriving DecidableEq, Repr

/-- A zone channel: its map entry (R78), its running state (R83), its meter (R93), its efficiency and
tuning age (R95), and its report data and counters (R82, R89, R99). `timer` is the count at which the
one timer the state runs is due: the start, recovery or tune timer (R83). -/
structure ZoneChannel where
  map : ZoneMap
  state : ZoneState
  timer : Option Nat
  band : Band
  pendingBand : Option Band
  grantInForce : Nat
  meteredGrant : Nat
  meteredBand : Band
  nextGrant : Option Nat
  onSince : Option Nat
  qOn : Nat
  eff : Nat
  tuningAge : Nat
  lastReport : Option ReportKind
  faultCause : Option FaultCause
  inverterCode : Option Nat
  starts : Nat
  faults : Nat
  grantsDiscarded : Nat
  strayReports : Nat
  idleEnergy : Nat
deriving DecidableEq, Repr

/-! ## The heating row (spec/04) -/

/-- Stroke states (R61). -/
inductive StrokeState where
  | idle
  | moving
deriving DecidableEq, Repr

/-- The row tracker: the row array of 40 positions (R59; a position holds the tag of its record, or a
gap), the stroke state, timer and counters (R61) and the cadence (R71). -/
structure RowTracker where
  positions : Vector (Option Nat) 40
  length : Nat
  stroke : StrokeState
  strokeTimer : Option Nat
  fwdRepeats : Nat
  homeUnmatched : Nat
  permitViolations : Nat
  cadenceCount : Option Nat
  cadenceHistory : List Nat
deriving DecidableEq, Repr

/-! ## The line sequencer (spec/09) -/

/-- The six line modes (R148). -/
inductive LineMode where
  | stopped
  | run
  | hold
  | drain
  | service
  | tripped
deriving DecidableEq, Repr, Inhabited

/-- Trip causes (R148). -/
inductive TripCause where
  | feeder
  | request
  | restart
deriving DecidableEq, Repr

/-- Hold causes (R148). -/
inductive HoldCause where
  | request
  | pressNotReady
  | strokeTimeout
  | pushOff
  | afterTrip
deriving DecidableEq, Repr

/-- The line sequencer: mode and causes (R148), the auto-hold timer (R155: the count at which it is
due), the feeder fault latch (R157) and the five line parameters it holds (R162). -/
structure LineSequencer where
  mode : LineMode
  tripCause : Option TripCause
  holdCause : Option HoldCause
  autoHold : Option Nat
  faultLatch : Bool
  nominalCadence : Nat
  queueLow : Nat
  tAmb : Nat
  holdDelay : Nat
  transferTimeout : Nat
deriving DecidableEq, Repr

/-! ## The feeder arbiter (spec/06) -/

/-- The state of the collection (R102). -/
inductive CollectionState where
  | collecting
  | settled
deriving DecidableEq, Repr

/-- The dispositions of a settlement (R116). -/
inductive Disposition where
  | mode
  | exclState
  | exclBand
  | exclTuning
  | noDemand
  | committed
  | granted
  | belowMin
  | deferred
deriving DecidableEq, Repr

/-- One zone's entry of the settlement record (R116). -/
structure ZoneSettlement where
  demand : Nat
  committed : Nat
  grant : Nat
  disposition : Disposition
deriving DecidableEq, Repr

/-- The settlement record (R116). -/
structure Settlement where
  roundTime : Nat
  settledAt : Nat
  mode : LineMode
  limit : Nat
  budgetLeft : Nat
  zones : Vector (Option ZoneSettlement) 12
deriving DecidableEq, Repr, Inhabited

/-- The feeder arbiter: the feeder limit (R117), the round timer as the count at which the round began
(R101), the collection (R102), the level pointers (R110), the start history (R112), the counters and
the settlement record (R116). -/
structure Arbiter where
  feederLimit : Nat
  roundStart : Nat
  collection : CollectionState
  collectionTime : Nat
  expected : Vector Bool 12
  demands : Vector (Option Nat) 12
  pointers : Vector ZoneId 4
  startHistory : List Nat
  deferredStarts : Nat
  unsettledRounds : Nat
  settlement : Option Settlement
deriving DecidableEq, Repr

/-! ## The tuning sequencer (spec/07) -/

/-- What a zone channel tells the sequencer of a tune order (R127). -/
inductive TuneOutcome where
  | refused
  | succeeded
  | failed
  | abandoned
deriving DecidableEq, Repr

/-- The result in an entry of the tune-all list (R130). -/
inductive TuneResult where
  | waiting
  | inProgress
  | tuned
  | failed
  | skipped
  | abandoned
  | notRun
deriving DecidableEq, Repr

/-- tune_all_state (R130). -/
inductive TuneAllState where
  | none
  | running
  | done
deriving DecidableEq, Repr

/-- The tuning sequencer (R121, R123, R125, R130); `window` is in rounds. -/
structure Tuner where
  pointer : Option ZoneId
  window : Nat
  regularZone : Option ZoneId
  allState : TuneAllState
  allList : List (ZoneId × TuneResult)
deriving DecidableEq, Repr

/-! ## The exit station (spec/08) -/

/-- Station states (R132). -/
inductive StationState where
  | empty
  | measuring
  | ready
  | rejecting
  | toPress
deriving DecidableEq, Repr

/-- The exit station: slot, state, wait and takes (R132), the reading list (R134), its two timers as
the counts at which they are due, and its five counters (R134, R140, R144). -/
structure ExitStation where
  slot : Option Nat
  state : StationState
  waitRounds : Option Nat
  pendingTakes : Nat
  readings : List Nat
  windowTimer : Option Nat
  transferTimer : Option Nat
  readingsInvalid : Nat
  readingsDiscarded : Nat
  takeOverflows : Nat
  strayPressDone : Nat
  strayChuteDone : Nat
deriving DecidableEq, Repr

/-! ## Controller restart and the time base (spec/10) -/

/-- The time base (R164). -/
structure Clock where
  count : Nat
  lastBoundary : Nat
deriving DecidableEq, Repr

/-- What began a controller restart (R166, R171). -/
inductive RestartCause where
  | ctrlReset
  | request
deriving DecidableEq, Repr

/-- A controller restart in its hold (R166): what R171 records of its entry. -/
structure RestartHold where
  cause : RestartCause
  entryTime : Nat
  modeBefore : LineMode
deriving DecidableEq, Repr

/-- What holds the part so that it takes no event: power-on reset (R165), or a controller restart
(R166). -/
inductive Hold where
  | powerOn
  | restart (entry : RestartHold)
deriving DecidableEq, Repr

/-- last_restart (R171). -/
structure RestartRecord where
  cause : RestartCause
  entryTime : Nat
  releaseTime : Nat
  modeBefore : LineMode
  missedRounds : Nat
  catchupSteps : Nat
  staleApplied : Bool
  recordsStepped : Nat
deriving DecidableEq, Repr

/-- Power-on reset and controller restart: the hold that is running, if one is (R165, R166), and the
restart record (R171). -/
structure RestartState where
  hold : Option Hold
  count : Nat
  last : Option RestartRecord
deriving DecidableEq, Repr

/-! ## Messages between blocks, from their sending to their taking -/

/-- An entry of a report's list (R38, R40); the exit entry's listed position is absent. -/
structure ReportEntry where
  tag : Nat
  loadSeq : Nat
  mass : Nat
  position : Option Nat
deriving DecidableEq, Repr

/-- Whose report it is: a zone's energy report with E_z and band (R38), or the unheated report (R40). -/
inductive ReportSource where
  | zone (zone : ZoneId) (energy : Nat) (band : Band)
  | unheated
deriving DecidableEq, Repr

/-- A report to the heat model unit (R38, R40). -/
structure Report where
  source : ReportSource
  boundaryTime : Nat
  entries : List ReportEntry
deriving DecidableEq, Repr

/-- A demand report (R57). -/
structure DemandMessage where
  zone : ZoneId
  boundaryTime : Nat
  demand : Nat
deriving DecidableEq, Repr

/-- A round notice (R114). -/
structure NoticeMessage where
  collectionTime : Nat
  grants : Vector (Option Nat) 12
deriving DecidableEq, Repr

/-- The messages sent between blocks and not yet taken, each list oldest first: the heat model unit's
input list of reports (R37), idle credits (R42), demand reports (R57), grants and round notices
(R114), tune orders (R125, R130), tuning outcomes (R127), step notices (R50), mark notices (R17) and
adaptation updates (R136). -/
structure Mail where
  reports : List Report
  credits : List (ZoneId × Nat)
  demands : List DemandMessage
  grants : List (ZoneId × Nat)
  notices : List NoticeMessage
  orders : List ZoneId
  outcomes : List (ZoneId × TuneOutcome)
  steps : List RecordRef
  marks : List RecordRef
  updates : List (RecipeId × Int)
deriving DecidableEq, Repr

/-! ## The line link (spec/11) -/

/-- The ten attention flags (R178), in the order of their bits (section 11.8). -/
inductive AttnFlag where
  | retired
  | reject
  | zoneFault
  | trip
  | holdEntered
  | strokeFault
  | queueLow
  | tuneOverdue
  | restarted
  | linkError
deriving DecidableEq, Repr

/-- Edge selections (R181). -/
inductive EdgeSelection where
  | none
  | rising
  | falling
  | both
deriving DecidableEq, Repr

/-- The five edge selections (R181). -/
structure EdgeSelections where
  pushFwd : EdgeSelection
  pushHome : EdgeSelection
  take : EdgeSelection
  pressDone : EdgeSelection
  chuteDone : EdgeSelection
deriving DecidableEq, Repr

/-- Status codes (section 11.8). -/
inductive Status where
  | ok
  | linkCrc
  | badLength
  | unknownRequest
  | wrongMode
  | wrongPlace
  | noSuchTag
  | tagInUse
  | queueFull
  | badValue
  | recipeInUse
  | busy
  | notConfigured
  | faultLatched
deriving DecidableEq, Repr

/-- READ_STATUS data (R176). -/
structure StatusView where
  mode : LineMode
  flags : BitVec 10
  masks : BitVec 10
  attention : Bool
  liveRecords : Nat
  queueLength : Nat
  timeCount : Nat
  restartCount : Nat
  lengthErrors : Nat
  crcErrors : Nat
  unknownRequests : Nat
  responsesLost : Nat
deriving DecidableEq, Repr

/-- The seven line parameters as SET_LINE returns them (R162); the tuning window is in rounds. -/
structure LineParameters where
  feederLimit : Nat
  nominalCadence : Nat
  queueLow : Nat
  tAmb : Nat
  holdDelay : Nat
  transferTimeout : Nat
  tuningWindow : Nat
deriving DecidableEq, Repr

/-- READ_ZONE data (R100). -/
structure ZoneView where
  map : ZoneMap
  band : Band
  pendingBand : Option Band
  state : ZoneState
  grantInForce : Nat
  nextGrant : Option Nat
  onTime : Option Nat
  eff : Nat
  effUsed : Nat
  tuningAge : Nat
  lastReport : Option ReportKind
  faultCause : Option FaultCause
  inverterCode : Option Nat
  starts : Nat
  faults : Nat
  grantsDiscarded : Nat
  strayReports : Nat
  idleEnergy : Nat
deriving DecidableEq, Repr

/-- READ_LINE data (R177). The settlement record is always reported (R116). -/
structure LineView where
  mode : LineMode
  tripCause : Option TripCause
  holdCause : Option HoldCause
  faultLatch : Bool
  autoHold : Option Nat
  parameters : LineParameters
  rowLength : Nat
  stroke : StrokeState
  fwdRepeats : Nat
  homeUnmatched : Nat
  permitViolations : Nat
  cadenceCount : Option Nat
  cadenceHistory : List Nat
  cadence : Nat
  collection : CollectionState
  pointers : Vector ZoneId 4
  startHistory : List Nat
  deferredStarts : Nat
  unsettledRounds : Nat
  settlement : Settlement
  tuningPointer : Option ZoneId
  overdue : List ZoneId
  regularZone : Option ZoneId
  tuneAllState : TuneAllState
  tuneAllList : List (ZoneId × TuneResult)
  station : StationState
  exitTag : Option Nat
  pendingTakes : Nat
  readingsInvalid : Nat
  readingsDiscarded : Nat
  takeOverflows : Nat
  strayPressDone : Nat
  strayChuteDone : Nat
  timeCount : Nat
  lastBoundary : Nat
  restartCount : Nat
  lastRestart : Option RestartRecord
deriving DecidableEq, Repr

/-- What a response carries besides its status. Section 11.8 lays out the billet snapshot and nothing
else, so every other payload is kept as the named fields its rule lists. -/
inductive Payload where
  /-- No data. -/
  | none
  /-- QUERY_BILLET and AMEND_BILLET (R14, R17). -/
  | snapshot (snap : Snapshot)
  /-- LOAD_BILLET (R12). -/
  | loadSeq (value : Nat)
  /-- QUERY_POSITION (R15). -/
  | tag (value : Nat)
  /-- QUERY_ROW (R15). -/
  | tags (values : List Nat)
  /-- READ_LAST_RETIRED (R20, R21); an absent snapshot is carried with tag 0, its other fields 0 and
  every optional field marked absent. -/
  | lastRetired (record : Option BilletRecord) (outcomes : Vector Nat 10)
  /-- READ_RECIPE and WRITE_RECIPE (R32, R34). -/
  | recipe (entry : Recipe)
  /-- WRITE_RECIPE refused with RECIPE_IN_USE (R31). -/
  | userCount (value : Nat)
  /-- RESET_BIAS: the previous biases and adaptation counts (R36). -/
  | biases (previous : List (Int × Nat))
  /-- READ_ZONE, SET_ZONE, SET_ZONE_BAND and CLEAR_ZONE_FAULT (R80, R90, R97, R100). -/
  | zone (view : ZoneView)
  /-- SET_ROW_LENGTH (R60). -/
  | rowLength (value : Nat)
  /-- SET_LINE (R162). -/
  | parameters (values : LineParameters)
  /-- READ_LINE (R177). -/
  | line (view : LineView)
  /-- MODE, for every status (R151). -/
  | mode (mode : LineMode) (tripCause : Option TripCause) (holdCause : Option HoldCause)
  /-- TUNE_ALL: the zones to be tuned (R129). -/
  | zones (list : List ZoneId)
  /-- ACK_ATTENTION: the flag set before and after (R179). -/
  | flags (before after : BitVec 10)
  /-- SET_MASKS: the new mask set and the flag set (R180). -/
  | masks (masks flags : BitVec 10)
  /-- SET_EDGES: the five selections and the levels of the five inputs (R181). -/
  | edges (selections : EdgeSelections) (pushFwd pushHome take pressDone chuteDone : Bool)
  /-- READ_STATUS (R176). -/
  | status (view : StatusView)
deriving DecidableEq, Repr

/-- A response: the status and what it carries. -/
structure Response where
  status : Status
  payload : Payload
deriving DecidableEq, Repr

/-- What the link shifted out in a transaction (R172, R175): the response that stood in the buffer, or
`none` for the empty response, and the number of complete bytes clocked. -/
structure ShiftOut where
  response : Option Response
  clocked : Nat
deriving DecidableEq, Repr

/-- The line link: flags and masks (R178), the response buffer (R175), what was last shifted out, the
edge selections (R181) and the four link counters (R173, R175). -/
structure LineLink where
  flags : BitVec 10
  masks : BitVec 10
  buffer : Option Response
  lastShift : Option ShiftOut
  edges : EdgeSelections
  lengthErrors : Nat
  crcErrors : Nat
  unknownRequests : Nat
  responsesLost : Nat
deriving DecidableEq, Repr

end Sys2Proof.Machine
end

