-- ==== Sys2Proof/Config.lean ====
section
/-! DEFINITION. Config.lean: the constants the manual fixes for the part, and the free values: what
the manual leaves open is an opaque constant, so that nothing can be proved of its value. -/

namespace Sys2Proof.Config

/-- A round is 200 ms (R101). -/
def roundMs : Nat := 200

/-- A quantum is 10 ms (R93). -/
def quantumMs : Nat := 10

/-- A round holds 20 quanta (R93). -/
def quantaPerRound : Nat := 20

/-- MIN_ON, 2000 ms (spec/00; R104's terms). -/
def minOnMs : Nat := 2000

/-- The stroke timer, 8000 ms (R61). -/
def strokeMs : Nat := 8000

/-- The start timer, 300 ms (R83). -/
def startMs : Nat := 300

/-- The recovery timer, 600 ms (R83). -/
def recoveryMs : Nat := 600

/-- The tune timer, 3000 ms (R83). -/
def tuneMs : Nat := 3000

/-- The measurement window, 1500 ms (R135). -/
def windowMs : Nat := 1500

/-- The hold of a RESTART request, 20 ms (R166). -/
def restartHoldMs : Nat := 20

/-- Any two starts lie at least 400 ms apart (R111). -/
def startSpacingMs : Nat := 400

/-- No 5000 ms hold more than four starts (R111). -/
def startWindowMs : Nat := 5000

/-- The hold horizon, 25 rounds (R54). -/
def holdHorizon : Nat := 25

/-- Catch-up makes at most 3000 steps (R170). -/
def catchUpCap : Nat := 3000

/-- The highest temperature, 1600.0 degrees (spec/00). -/
def tempMax : Nat := 16000

/-- The highest value of a 16-bit counter. -/
def counterMax : Nat := 65535

/-- The highest value of an energy counter, in joules (R4, R96). -/
def energyMax : Nat := 4000000000

/-- The highest value of the load counter (R7), and of missed_rounds (R171). -/
def word32Max : Nat := 4294967295

/-- The highest value of time_count (R164). -/
def timeMax : Nat := 281474976710655

/-- FREE VALUE (log entry 5). The bytes of a response payload whose layout the manual does not give, or
of the part of it whose layout is not given: the line link chapter lays out the billet snapshot, and
"other data a response returns is specified by its named fields" (spec/00). Their number decides when
such a response counts as fetched (R175). -/
opaque openPayload : Machine.Payload → List Byte

/-- FREE VALUE (log entry 23). What READ_LINE reports in settled_at, mode, limit and budget_left before
the first arbitration: R116 gives the round_time and the zone entries of that report and no more. -/
opaque openSettlement : Machine.Settlement

/-- FREE VALUE (log entry 6). Whether AMEND_BILLET's parts-present byte is checked before R16's checks
or after them, which decides the status when both fail: section 11.3 says such a byte "is refused with
BAD_VALUE" and R16's ordered table does not hold the check. -/
opaque amendPartsFirst : Bool

end Sys2Proof.Config
end

