-- ==== Sys2Proof/Machine/State.lean ====
section
/-! DEFINITION. Machine/State.lean: the state of the BT40, block by block (spec/00, "Block overview"),
the reasons a step can stop, and the state after power-on reset. -/

namespace Sys2Proof.Machine

/-- The reasons a step can stop with a fault. There are none: the manual gives every command an effect
in every state, and no command stops the part. -/
inductive Fault where
deriving DecidableEq, Repr

/-- The reasons a command can be refused by the MODEL (a status such as BAD_VALUE is a response, not
this). -/
inductive Refusal where
  /-- Raised by exec's arm of a command that has no meaning yet. Safe: the model stops where the part
  goes on. -/
  | notModelled (mnemonic : String)
deriving DecidableEq, Repr

/-- The state of the block. -/
structure State where
  /-- The commands that are waiting, first in, first out (the row's queue, not the spec's). -/
  pending : List Instr
  clock : Clock
  pool : Pool
  recipes : Vector Recipe 16
  row : RowTracker
  zones : Vector ZoneChannel 12
  feeder : Arbiter
  tuner : Tuner
  exit : ExitStation
  line : LineSequencer
  link : LineLink
  restart : RestartState
  /-- Messages sent between blocks and not yet taken. -/
  mail : Mail
  /-- The levels of the input pins. -/
  pins : Levels
  /-- The commands sent on the inverter ports (R81), oldest first: an output, never read. -/
  sent : List (ZoneId × InverterCommand)
deriving DecidableEq, Repr

/-- Every stored field at the lowest value of its range (R22). -/
def lowestFields : RecipeFields :=
  { cp := 200, sLow := 500, sHigh := 500, equalization := 0, loss := 0,
    zoneTarget := Vector.replicate 12 0, holdTemp := 0, exitTarget := 0, tolLow := 0, tolHigh := 0,
    tsMax := 0, gradMax := 0, maxSoak := 0, maxWait := 0, adaptGain := 0 }

/-- A recipe after power-on reset (R22). -/
def Recipe.reset : Recipe :=
  { valid := false, fields := lowestFields, bias := 0, adaptCount := 0, users := 0 }

/-- A zone channel after power-on reset (R78, R83, R93, R95, R99). -/
def ZoneChannel.reset : ZoneChannel :=
  { map := { firstPos := 0, lastPos := 0, maxKW := 10, minKW := 5, level := 0, enabled := false },
    state := .off, timer := none, band := .low, pendingBand := none, grantInForce := 0,
    meteredGrant := 0, meteredBand := .low, nextGrant := none, onSince := none, qOn := 0, eff := 800,
    tuningAge := 65535, lastReport := none, faultCause := none, inverterCode := none, starts := 0,
    faults := 0, grantsDiscarded := 0, strayReports := 0, idleEnergy := 0 }

/-- The record pool after power-on reset (R7, R9, R20, R21). -/
def Pool.reset : Pool :=
  { records := [], queue := [], loadCounter := 0, lastRetired := none,
    outcomes := Vector.replicate 10 0 }

/-- The row tracker after power-on reset (R77). -/
def RowTracker.reset : RowTracker :=
  { positions := Vector.replicate 40 none, length := 24, stroke := .idle, strokeTimer := none,
    fwdRepeats := 0, homeUnmatched := 0, permitViolations := 0, cadenceCount := none,
    cadenceHistory := [] }

/-- The feeder arbiter after power-on reset (R120). -/
def Arbiter.reset : Arbiter :=
  { feederLimit := 0, roundStart := 0, collection := .settled, collectionTime := 0,
    expected := Vector.replicate 12 false, demands := Vector.replicate 12 none,
    pointers := Vector.replicate 4 11, startHistory := [], deferredStarts := 0, unsettledRounds := 0,
    settlement := none }

/-- The tuning sequencer after power-on reset (R131). -/
def Tuner.reset : Tuner :=
  { pointer := none, window := 4500, regularZone := none, allState := .none, allList := [] }

/-- The exit station after power-on reset (R147). -/
def ExitStation.reset : ExitStation :=
  { slot := none, state := .empty, waitRounds := none, pendingTakes := 0, readings := [],
    windowTimer := none, transferTimer := none, readingsInvalid := 0, readingsDiscarded := 0,
    takeOverflows := 0, strayPressDone := 0, strayChuteDone := 0 }

/-- The line sequencer after power-on reset (R163), with the level of FEEDER_FAULT at the release. -/
def LineSequencer.reset (feederFault : Bool) : LineSequencer :=
  { mode := .stopped, tripCause := none, holdCause := none, autoHold := none,
    faultLatch := feederFault, nominalCadence := 60, queueLow := 2, tAmb := 250, holdDelay := 3000,
    transferTimeout := 4000 }

/-- The line link after power-on reset (R173, R175, R178, R181): the mask set is 759, every flag but
TRIP and RESTARTED (section 11.8). -/
def LineLink.reset : LineLink :=
  { flags := 0, masks := 759, buffer := none, lastShift := none,
    edges := { pushFwd := .rising, pushHome := .rising, take := .rising, pressDone := .rising,
               chuteDone := .rising },
    lengthErrors := 0, crcErrors := 0, unknownRequests := 0, responsesLost := 0 }

/-- No message waits after power-on reset (R37). -/
def Mail.reset : Mail :=
  { reports := [], credits := [], demands := [], grants := [], notices := [], orders := [],
    outcomes := [], steps := [], marks := [], updates := [] }

/-- The input levels `State.reset` takes (log entry 2): every input inactive. -/
def quietLevels : Levels :=
  { pushFwd := false, pushHome := false, take := false, pressDone := false, chuteDone := false,
    pressReady := false, feederFault := false, ctrlReset := false }

/-- The state at the release of power-on reset with the input levels read at it (R165), the waiting
commands being `pending`. -/
def State.powerOn (levels : Levels) (pending : List Instr) : State :=
  { pending := pending, clock := { count := 0, lastBoundary := 0 }, pool := Pool.reset,
    recipes := Vector.replicate 16 Recipe.reset, row := RowTracker.reset,
    zones := Vector.replicate 12 ZoneChannel.reset, feeder := Arbiter.reset, tuner := Tuner.reset,
    exit := ExitStation.reset, line := LineSequencer.reset levels.feederFault,
    link := LineLink.reset, restart := { hold := none, count := 0, last := none },
    mail := Mail.reset, pins := levels, sent := [] }

/-- The machine right after power-on reset, every input inactive and no command waiting (R165). -/
def State.reset : State := State.powerOn quietLevels []

end Sys2Proof.Machine
end

