-- ==== Sys2Proof/Machine/Operands.lean ====
section
/-! DEFINITION. Machine/Operands.lean: how a command's operand values are read: choice bytes, parts
bytes, numbers that name a zone or a recipe, edge selections against transitions, and the clamps of
written parameters (sections 2.2, 11.3 and 11.8; R162). -/

namespace Sys2Proof.Machine

/-- A zone number, 0 to 11 (spec/00). -/
def zoneOf (n : Nat) : Option ZoneId := if h : n < 12 then some ⟨n, h⟩ else none

/-- A recipe number, 0 to 15 (spec/00). -/
def recipeOf (n : Nat) : Option RecipeId := if h : n < 16 then some ⟨n, h⟩ else none

/-- A priority level, 0 to 3 (spec/00). -/
def levelOf (n : Nat) : Option Level := if h : n < 4 then some ⟨n, h⟩ else none

/-- no / yes: codes 0 and 1 (section 11.8). -/
def yesNoOf : Nat → Option Bool
  | 0 => some false
  | 1 => some true
  | _ => none

/-- Band: LOW 0, HIGH 1 (section 11.8). -/
def bandOf : Nat → Option Band
  | 0 => some .low
  | 1 => some .high
  | _ => none

/-- Edge selection: NONE 0, RISING 1, FALLING 2, BOTH 3 (section 11.8). -/
def edgeOf : Nat → Option EdgeSelection
  | 0 => some .none
  | 1 => some .rising
  | 2 => some .falling
  | 3 => some .both
  | _ => none

/-- The five selections SET_EDGES carries, if each names a value of the table (R181). -/
def edgesOf (f : EdgeFields) : Option EdgeSelections :=
  match edgeOf f.pushFwd, edgeOf f.pushHome, edgeOf f.take, edgeOf f.pressDone,
      edgeOf f.chuteDone with
  | some a, some b, some c, some d, some e =>
      some { pushFwd := a, pushHome := b, take := c, pressDone := d, chuteDone := e }
  | _, _, _, _, _ => none

/-- Whether a selection counts a transition as an edge (R181). -/
def EdgeSelection.counts : EdgeSelection → Transition → Bool
  | .none, _ => false
  | .rising, .rising => true
  | .rising, .falling => false
  | .falling, .rising => false
  | .falling, .falling => true
  | .both, _ => true

/-- The level an input has after a transition. -/
def transitionLevel : Transition → Bool
  | .rising => true
  | .falling => false

/-- The part of a parts-present byte with place value 2 to the `k` (section 11.3). -/
def hasPart (parts k : Nat) : Bool := parts.testBit k

/-- AMEND_BILLET's parts-present byte has no bit beyond its three parts (section 11.3). -/
def amendPartsNamed (parts : Nat) : Bool := parts < 8

/-- SET_LINE's parts-present byte has no bit beyond its seven parts (section 11.3). -/
def linePartsNamed (parts : Nat) : Bool := parts < 128

/-- A flag or mask set names no bit beyond the ten flags (R179, R180, section 11.8). -/
def flagsNamed (word : Nat) : Bool := word < 1024

/-- RESET_BIAS's selection of ALL (section 11.3). -/
def allRecipes : Nat := 255

/-! ## Clamps of written values -/

/-- The stored fields as WRITE_RECIPE stores them: the editable fields clamped (section 2.2, R32). The
five constants have passed their range check (R31). -/
def clampedFields (f : RecipeFields) : RecipeFields :=
  { f with
    zoneTarget := Vector.ofFn fun z => min Config.tempMax f.zoneTarget[z]
    holdTemp := min Config.tempMax f.holdTemp
    exitTarget := min Config.tempMax f.exitTarget
    tolLow := min 1000 f.tolLow
    tolHigh := min 1000 f.tolHigh
    tsMax := min Config.tempMax f.tsMax
    gradMax := min 5000 f.gradMax
    adaptGain := min 500 f.adaptGain }

/-- The five thermal constants lie in their ranges (R31, check 4). -/
def constantsInRange (f : RecipeFields) : Bool :=
  (200 ≤ f.cp && f.cp ≤ 2000) && (500 ≤ f.sLow && f.sLow ≤ 1000)
    && (500 ≤ f.sHigh && f.sHigh ≤ 1000) && f.equalization ≤ 500 && f.loss ≤ 100

/-- The five thermal constants are those stored (R31, check 5). -/
def sameConstants (f g : RecipeFields) : Bool :=
  f.cp = g.cp && f.sLow = g.sLow && f.sHigh = g.sHigh && f.equalization = g.equalization
    && f.loss = g.loss

/-- max_kW as SET_ZONE clamps it (R79). -/
def clampMaxKW (n : Nat) : Nat := clampNat 10 1500 n

/-- The feeder limit as SET_LINE clamps it (R117). -/
def clampFeederLimit (n : Nat) : Nat := clampNat 50 6000 n

/-- nominal_cadence as SET_LINE clamps it (R162). -/
def clampCadence (n : Nat) : Nat := clampNat 1 3000 n

/-- transfer_timeout as SET_LINE clamps it (R162). -/
def clampTransfer (n : Nat) : Nat := clampNat 1000 10000 n

/-- The tuning window in rounds: the clamped seconds multiplied by 5 (R123). -/
def windowRounds (seconds : Nat) : Nat := clampNat 60 3600 seconds * 5

end Sys2Proof.Machine
end

