-- ==== Sys2Proof/Machine/Flags.lean ====
section
/-! DEFINITION. Machine/Flags.lean: the attention flags and the four outputs that follow the state at
every moment (R69, R132, R178), and the flag set of a record (R5). -/

namespace Sys2Proof.Machine

/-- The place of a flag in the two-byte flag set: RETIRED 1, REJECT 2, ZONE_FAULT 4, TRIP 8,
HOLD_ENTERED 16, STROKE_FAULT 32, QUEUE_LOW 64, TUNE_OVERDUE 128, RESTARTED 256, LINK_ERROR 512
(section 11.8). -/
def AttnFlag.place : AttnFlag → Nat
  | .retired => 0
  | .reject => 1
  | .zoneFault => 2
  | .trip => 3
  | .holdEntered => 4
  | .strokeFault => 5
  | .queueLow => 6
  | .tuneOverdue => 7
  | .restarted => 8
  | .linkError => 9

/-- The flag set that holds one flag. -/
def AttnFlag.bit (f : AttnFlag) : BitVec 10 := BitVec.ofNat 10 (2 ^ f.place)

/-- Set an attention flag; setting a flag that is already set leaves it set (R178). -/
def State.raise (s : State) (f : AttnFlag) : State :=
  { s with link := { s.link with flags := s.link.flags ||| f.bit } }

/-- Set an attention flag when a condition holds. -/
def State.raiseIf (s : State) (c : Bool) (f : AttnFlag) : State :=
  if c then s.raise f else s

/-- Whether an attention flag is set. -/
def State.flagged (s : State) (f : AttnFlag) : Bool := s.link.flags.getLsbD f.place

/-- The flags of `flags` that `named` does not name (R179). -/
def clearFlags (flags named : BitVec 10) : BitVec 10 := flags &&& ~~~named

/-- The part takes no event while power-on reset or a controller restart holds it (R165, R167). -/
def State.held (s : State) : Bool := s.restart.hold.isSome

/-- ATTENTION: asserted while at least one flag is both set and unmasked (R178). Through a hold every
output is deasserted (R165, R167). -/
def State.attention (s : State) : Bool := clearFlags s.link.flags s.link.masks != 0 && !s.held

/-- The output PUSH_PERMIT (R69; R165, R167). -/
def State.pushPermit (s : State) : Bool :=
  (s.line.mode = .run || s.line.mode = .drain) && s.exit.state = .empty && s.row.stroke = .idle
    && !s.held

/-- The output PRESS_LOAD follows TO_PRESS (R132; R147, R165, R167). -/
def State.pressLoad (s : State) : Bool := s.exit.state = .toPress && !s.held

/-- The output CHUTE_OPEN follows REJECTING (R132; R147, R165, R167). -/
def State.chuteOpen (s : State) : Bool := s.exit.state = .rejecting && !s.held

/-- The empty flag set of a record (R5). -/
def BilletFlags.clear : BilletFlags :=
  { marked := false, overheat := false, soakExceeded := false, stale := false }

/-- A record's flag set is not empty. -/
def BilletFlags.any (f : BilletFlags) : Bool := f.marked || f.overheat || f.soakExceeded || f.stale

end Sys2Proof.Machine
end

