-- ==== Sys2Proof/Machine/Ops.lean ====
section
/-! DEFINITION. Machine/Ops.lean: the operations the commands share: the time base and the meters'
quanta, lookups and updates of records, retirement, the sending and taking of messages, the line
link's transaction, entries into a zone state, entries into a line mode, stop-all, and the ends of the
exit station's transfers. -/

namespace Sys2Proof.Machine

/-- The next state of an event: unchanged through a hold (R165, R167). -/
def State.event (s : State) (f : State → State) : Host.Outcome State Fault Refusal :=
  .next (if s.held then s else f s)

/-! ## Time (R164) and the quanta of the meters (R93) -/

/-- The quanta of the round that end after `now` and not after `later`, and that begin at or after
`since`; quantum k runs from `origin + 10 k` to `origin + 10 (k + 1)` (R93). -/
def quantaGained (origin now later since : Nat) : Nat :=
  (later - origin) / Config.quantumMs
    - max ((now - origin) / Config.quantumMs) (ceilDiv (since - origin) Config.quantumMs)

/-- A channel's meter over a stretch of time in which its state does not change (R93). -/
def ZoneChannel.accrue (origin now later : Nat) (z : ZoneChannel) : ZoneChannel :=
  match z.state, z.onSince with
  | .on, some since =>
      { z with qOn := min Config.quantaPerRound (z.qOn + quantaGained origin now later since) }
  | _, _ => z

/-- `n` milliseconds pass, and nothing else is taken in them (R164, R93). -/
def State.elapse (s : State) (n : Nat) : State :=
  let later := satAdd Config.timeMax s.clock.count n
  { s with
    clock := { s.clock with count := later }
    zones := Vector.ofFn fun z => s.zones[z].accrue s.feeder.roundStart s.clock.count later }

/-- The time base reaches the count at which a timer is due, if it has not reached it yet: an expiry
is an event of its due time (log entry 3). -/
def State.reach (s : State) (due : Nat) : State := s.elapse (due - s.clock.count)

/-! ## Records (R7, R8) -/

/-- The live record that carries the tag; tag 0 finds nothing (R8). -/
def State.lookup (s : State) (tag : Nat) : Option BilletRecord :=
  if tag = 0 then none else s.pool.records.find? fun r => r.tag == tag

/-- The live record that carries both tag and load_seq (R8). -/
def State.lookupRef (s : State) (ref : RecordRef) : Option BilletRecord :=
  (s.lookup ref.tag).filter fun r => r.loadSeq == ref.loadSeq

/-- Change the live record that carries a tag. -/
def State.modifyRecord (s : State) (tag : Nat) (f : BilletRecord → BilletRecord) : State :=
  { s with pool := { s.pool with
      records := s.pool.records.map fun r => if r.tag = tag then f r else r } }

/-- The tag in a row position, or `none` for a gap and beyond the array (R59). -/
def RowTracker.tagAt (row : RowTracker) (p : Nat) : Option Nat := (row.positions[p]?).join

/-- Whether any row position holds a record (R76). -/
def RowTracker.occupied (row : RowTracker) : Bool := row.positions.toList.any Option.isSome

/-- Change a recipe's entry. -/
def State.modifyRecipe (s : State) (k : RecipeId) (f : Recipe → Recipe) : State :=
  { s with recipes := s.recipes.set k (f s.recipes[k]) }

/-- The recipe is in use while its user count is above 0 (R29). -/
def Recipe.inUse (r : Recipe) : Bool := 0 < r.users

/-- The place of an outcome's counter, which is its code of section 11.8 less 1. -/
def BilletOutcome.counter : BilletOutcome → Fin 10
  | .forged => 0
  | .rejectedCold => 1
  | .rejectedHot => 2
  | .rejectedFlagged => 3
  | .rejectedCooled => 4
  | .noReading => 5
  | .transferLost => 6
  | .transferUnknown => 7
  | .pushedOff => 8
  | .withdrawn => 9

/-- Retirement of the live record that carries the tag (R19, with the user count of R29). -/
def State.retire (s : State) (tag : Nat) (outcome : BilletOutcome) : State :=
  match s.lookup tag with
  | none => s
  | some r =>
      let k := outcome.counter
      let s := { s with pool := { s.pool with
        records := s.pool.records.filter fun x => x.tag != tag
        lastRetired := some { r with outcome := some outcome }
        outcomes := s.pool.outcomes.set k (satAdd Config.counterMax s.pool.outcomes[k] 1) } }
      (s.modifyRecipe r.recipe fun e => { e with users := e.users - 1 }).raise .retired

/-- The snapshot of a live record, with its queue index while QUEUED (R14, R9). -/
def State.snapshot (s : State) (r : BilletRecord) : Snapshot :=
  { record := r
    queueIndex := if r.place = .queued then s.pool.queue.findIdx? fun t => t == r.tag else none }

/-! ## Messages -/

/-- Take the oldest message of a channel that satisfies `p`: the message, and the channel without it. -/
def takeFirst {α : Type} (p : α → Bool) : List α → Option (α × List α)
  | [] => none
  | m :: rest =>
      if p m then some (m, rest)
      else (takeFirst p rest).map fun (x, left) => (x, m :: left)

/-! ## The line link's transaction (R172, R173, R175) -/

/-- Status codes (section 11.8). -/
def Status.code : Status → Nat
  | .ok => 1
  | .linkCrc => 2
  | .badLength => 3
  | .unknownRequest => 4
  | .wrongMode => 5
  | .wrongPlace => 6
  | .noSuchTag => 7
  | .tagInUse => 9
  | .queueFull => 10
  | .badValue => 12
  | .recipeInUse => 13
  | .busy => 14
  | .notConfigured => 15
  | .faultLatched => 16

/-- The code of a place in the snapshot (section 11.8). -/
def Place.code : Place → Nat
  | .queued => 0
  | .row _ => 1
  | .exit => 2

/-- The position of a place, present exactly when the place is ROW (R2). -/
def Place.position : Place → Option Nat
  | .queued => none
  | .row p => some p
  | .exit => none

/-- The code of an outcome in the snapshot, 1 to 10 (section 11.8). -/
def BilletOutcome.code (o : BilletOutcome) : Nat := o.counter.val + 1

/-- The flag byte of the snapshot: MARKED 1, OVERHEAT 2, SOAK_EXCEEDED 4, STALE 8 (section 11.8). -/
def BilletFlags.code (f : BilletFlags) : Nat :=
  f.marked.toNat + 2 * f.overheat.toNat + 4 * f.soakExceeded.toNat + 8 * f.stale.toNat

/-- The billet snapshot, 33 bytes (section 11.8); an absent field is carried as 0. -/
def Snapshot.bytes (snap : Snapshot) : List Byte :=
  let r := snap.record
  bytes16 r.tag ++ bytes32 r.loadSeq ++ [byte r.recipe.val] ++ bytes32 r.mass
    ++ [byte r.place.code,
        byte (r.place.position.isSome.toNat + 2 * snap.queueIndex.isSome.toNat
          + 4 * r.measured.isSome.toNat + 8 * r.outcome.isSome.toNat),
        byte (r.place.position.getD 0), byte (snap.queueIndex.getD 0)]
    ++ bytes16 r.ts ++ bytes16 r.tc ++ bytesI16 r.targetOffset ++ [byte r.flags.code]
    ++ bytes32 r.energy ++ bytes16 r.rowsRounds ++ bytes16 r.soakRounds
    ++ bytes16 (r.measured.getD 0) ++ [byte ((r.outcome.map BilletOutcome.code).getD 0)]

/-- The last-retired snapshot in the billet snapshot layout, without a queue index; 33 bytes of 0 when it
is absent (R20, section 11.8). -/
def lastRetiredBytes (record : Option BilletRecord) : List Byte :=
  match record with
  | none => List.replicate 33 0
  | some r => Snapshot.bytes { record := r, queueIndex := none }

/-- The payload bytes of a response, at most 1024 (section 11.8). A payload whose layout the manual
does not give has free bytes; READ_LAST_RETIRED's ten counters have free bytes after the snapshot
(log entry 5). -/
def Payload.bytes (p : Payload) : List Byte :=
  match p with
  | .none => []
  | .snapshot snap => snap.bytes
  | .lastRetired record outcomes =>
      lastRetiredBytes record
        ++ (Config.openPayload (.lastRetired record outcomes)).take (1024 - 33)
  | other => (Config.openPayload other).take 1024

/-- The response frame: status, two length bytes, payload, CRC-8 (section 11.8). -/
def Response.frame (r : Response) : List Byte :=
  let payload := r.payload.bytes
  let body := byte r.status.code :: bytes16 payload.length ++ payload
  body ++ [crc8 body]

/-- The bytes shifted out in a transaction: the response, then zeros (R172, R175). -/
def ShiftOut.bytes (o : ShiftOut) : List Byte :=
  ((o.response.elim [] Response.frame) ++ List.replicate o.clocked 0).take o.clocked

/-- The fetch settled at the end of a transaction: the buffer is emptied when its whole response was
shifted out, and kept otherwise (R175). -/
def State.settleFetch (s : State) (clocked : Nat) : State :=
  let fetched : Bool :=
    match s.link.buffer with
    | none => true
    | some r => r.frame.length ≤ clocked
  { s with link := { s.link with
      lastShift := some { response := s.link.buffer, clocked := clocked }
      buffer := if fetched then none else s.link.buffer } }

/-- A new response goes into the buffer; an unfetched one is lost and counted (R175). -/
def State.respond (s : State) (r : Response) : State :=
  { s with link := { s.link with
      buffer := some r
      responsesLost :=
        if s.link.buffer.isSome then satAdd Config.counterMax s.link.responsesLost 1
        else s.link.responsesLost } }

/-- A transaction in the hold of a controller restart shifts out the empty response, and its request
is lost (R182); so does one while power-on reset holds the part (R165, log entry 14). -/
def State.shiftEmpty (s : State) (clocked : Nat) : State :=
  { s with link := { s.link with lastShift := some { response := none, clocked := clocked } } }

/-- A transaction: without a complete byte it changes nothing (R172); in a hold its request is lost
(R182, R165); otherwise the fetch is settled and the request `act` is taken. DESIGN CHOICE (log entry
25): a transaction that began in a hold and ends after the release is one of after the release. -/
def State.transaction (s : State) (clocked : Nat) (act : State → State) :
    Host.Outcome State Fault Refusal :=
  .next (
    if clocked = 0 then s
    else if s.held then s.shiftEmpty clocked
    else act (s.settleFetch clocked))

/-- A transaction whose request is answered: `act` gives the response and the state it leaves (R172). -/
def State.request (s : State) (clocked : Nat) (act : State → Response × State) :
    Host.Outcome State Fault Refusal :=
  s.transaction clocked fun s =>
    let (r, t) := act s
    t.respond r

/-- A refusal that carries no data. DESIGN CHOICE (log entry 22) where the rule that gives the refusal
its status names data beside OK alone and says nothing of the refusal's. -/
def refuse (status : Status) (s : State) : Response × State :=
  ({ status := status, payload := .none }, s)

/-- The status OK with the data the request returns. -/
def accept (payload : Payload) (s : State) : Response × State :=
  ({ status := .ok, payload := payload }, s)

/-! ## Zone channels (R83 to R92, R95) -/

/-- Change a zone channel. -/
def State.modifyZone (s : State) (z : ZoneId) (f : ZoneChannel → ZoneChannel) : State :=
  { s with zones := s.zones.set z (f s.zones[z]) }

/-- Send a command on a zone's inverter port (R81). -/
def State.send (s : State) (z : ZoneId) (c : InverterCommand) : State :=
  { s with sent := s.sent ++ [(z, c)] }

/-- Tell the tuning sequencer the outcome of a tune order (R127). -/
def State.tellTuner (s : State) (z : ZoneId) (o : TuneOutcome) : State :=
  { s with mail := { s.mail with outcomes := s.mail.outcomes ++ [(z, o)] } }

/-- The efficiency in use: derated at or beyond the tuning window (R95). -/
def ZoneChannel.effUsed (z : ZoneChannel) (window : Nat) : Nat :=
  if z.tuningAge < window then z.eff else z.eff * 875 / 1000

/-- An enabled zone is overdue while its tuning age is at or beyond the window (R123). -/
def ZoneChannel.overdue (z : ZoneChannel) (window : Nat) : Bool :=
  z.map.enabled && window ≤ z.tuningAge

/-- The overdue set, formed whenever it is read (R123). -/
def State.overdueZones (s : State) : List ZoneId :=
  (List.finRange 12).filter fun z => s.zones[z].overdue s.tuner.window

/-- The enabled zones in ascending order. -/
def State.enabledZones (s : State) : List ZoneId :=
  (List.finRange 12).filter fun z => s.zones[z].map.enabled

/-- The channel's part of an entry into STOPPING (R86). -/
def ZoneChannel.toStopping (now : Nat) (z : ZoneChannel) : ZoneChannel :=
  { z with
    state := .stopping, timer := some (now + Config.recoveryMs), grantInForce := 0,
    nextGrant := none, onSince := none }

/-- Entry into STOPPING: STOP is sent and the recovery timer starts (R86). -/
def State.enterStopping (s : State) (z : ZoneId) : State :=
  (s.modifyZone z (ZoneChannel.toStopping s.clock.count)).send z .stop

/-- The channel's part of an entry into FAULTED, or of a FAULT report while FAULTED (R89). -/
def ZoneChannel.toFaulted (cause : FaultCause) (z : ZoneChannel) : ZoneChannel :=
  { z with
    state := .faulted, timer := none, grantInForce := 0, nextGrant := none, onSince := none,
    faultCause := some cause, faults := satAdd Config.counterMax z.faults 1 }

/-- Entry into FAULTED: ZONE_FAULT is set, and a zone that was TUNING tells the sequencer that the
tuning failed (R89). -/
def State.enterFaulted (s : State) (z : ZoneId) (cause : FaultCause) : State :=
  let wasTuning := s.zones[z].state = .tuning
  let s := (s.modifyZone z (ZoneChannel.toFaulted cause)).raise .zoneFault
  if wasTuning then s.tellTuner z .failed else s

/-- Entry into OFF: no timer runs, and a pending band is applied (R86, R97). -/
def ZoneChannel.toOff (z : ZoneChannel) : ZoneChannel :=
  { z with
    state := .off, timer := none, band := z.pendingBand.getD z.band, pendingBand := none }

/-- Whether stop-all takes a zone in this state to STOPPING (R98). -/
def ZoneState.stoppable : ZoneState → Bool
  | .off => false
  | .starting => true
  | .on => true
  | .stopping => false
  | .tuning => true
  | .faulted => false

/-- A channel's part of stop-all (R98). -/
def ZoneChannel.stopAll (now : Nat) (z : ZoneChannel) : ZoneChannel :=
  if z.state.stoppable then z.toStopping now
  else { z with grantInForce := 0, nextGrant := none, onSince := none }

/-- Stop-all, taken at every zone channel at once (R98): STOP goes to every zone that enters STOPPING,
and the sequencer is told of each tuning that is abandoned. -/
def State.stopAll (s : State) : State :=
  { s with
    zones := Vector.ofFn fun z => s.zones[z].stopAll s.clock.count
    sent := s.sent ++
      ((List.finRange 12).filter fun z => s.zones[z].state.stoppable).map fun z =>
        (z, InverterCommand.stop)
    mail := { s.mail with
      outcomes := s.mail.outcomes ++
        ((List.finRange 12).filter fun z => s.zones[z].state = .tuning).map fun z =>
          (z, TuneOutcome.abandoned) } }

/-- READ_ZONE data of a zone as it stands (R100). -/
def State.zoneView (s : State) (z : ZoneId) : ZoneView :=
  let c := s.zones[z]
  { map := c.map, band := c.band, pendingBand := c.pendingBand, state := c.state,
    grantInForce := c.grantInForce, nextGrant := c.nextGrant,
    onTime := if c.state = .on then c.onSince.map (s.clock.count - ·) else none,
    eff := c.eff, effUsed := c.effUsed s.tuner.window, tuningAge := c.tuningAge,
    lastReport := c.lastReport, faultCause := c.faultCause, inverterCode := c.inverterCode,
    starts := c.starts, faults := c.faults, grantsDiscarded := c.grantsDiscarded,
    strayReports := c.strayReports, idleEnergy := c.idleEnergy }

/-- The sum of min_kW over the enabled zones (R117, R118). -/
def minimumSum (zones : Vector ZoneChannel 12) : Nat :=
  ((zones.toList.filter fun z => z.map.enabled).map fun z => z.map.minKW).sum

/-! ## Line modes (R149, R150, R155) -/

/-- The modes in which the line produces (spec/09). -/
def LineMode.production : LineMode → Bool
  | .stopped => false
  | .run => true
  | .hold => true
  | .drain => true
  | .service => false
  | .tripped => false

/-- RUN or DRAIN. -/
def LineMode.pushing : LineMode → Bool
  | .stopped => false
  | .run => true
  | .hold => false
  | .drain => true
  | .service => false
  | .tripped => false

/-- STOPPED or SERVICE. -/
def LineMode.idle : LineMode → Bool
  | .stopped => true
  | .run => false
  | .hold => false
  | .drain => false
  | .service => true
  | .tripped => false

/-- The auto-hold timer starts if it is stopped, PRESS_READY is inactive and hold_delay is not 0
(R155). -/
def State.startAutoHold (s : State) : State :=
  if s.line.autoHold.isNone && !s.pins.pressReady && s.line.holdDelay != 0 then
    { s with line := { s.line with autoHold := some (s.clock.count + s.line.holdDelay) } }
  else s

/-- The cadence history is emptied and cadence_count made absent (R72). -/
def State.clearCadence (s : State) : State :=
  { s with row := { s.row with cadenceCount := none, cadenceHistory := [] } }

/-- Entry into RUN (R150). -/
def State.enterRun (s : State) : State :=
  ({ s with line := { s.line with mode := .run } }.clearCadence).startAutoHold

/-- Entry into HOLD (R150). -/
def State.enterHold (s : State) (cause : HoldCause) : State :=
  { s with line := { s.line with mode := .hold, holdCause := some cause, autoHold := none } }.raise
    .holdEntered

/-- Entry into DRAIN: from RUN a running auto-hold timer runs on, from HOLD the timer may start
(R150). DESIGN CHOICE (log entry 24): from RUN a stopped timer stays stopped, though hold_delay may have
been raised from 0 with PRESS_READY inactive. -/
def State.enterDrain (s : State) : State :=
  let t := { s with line := { s.line with mode := .drain } }
  if s.line.mode = .hold then t.startAutoHold else t

/-- Entry into TRIPPED, with its stop-all (R150, R158). -/
def State.enterTripped (s : State) (cause : TripCause) : State :=
  { s with line := { s.line with mode := .tripped, tripCause := some cause, autoHold := none }
    }.stopAll.raise .trip

/-- Entry into STOPPED (R150). -/
def State.enterStopped (s : State) : State :=
  { s with line := { s.line with mode := .stopped, autoHold := none } }

/-- Entry into SERVICE (R150). -/
def State.enterService (s : State) : State := { s with line := { s.line with mode := .service } }

/-- No row position holds a record and the exit station is EMPTY. -/
def State.lineEmpty (s : State) : Bool := !s.row.occupied && s.exit.state = .empty

/-- The line sequencer's test for drain completion, at a stroke-end notice or an exit-empty notice
(R154). -/
def State.drainTest (s : State) : State :=
  if s.line.mode = .drain && s.lineEmpty then s.enterStopped else s

/-- Place the tuning pointer on the lowest enabled zone, or make it absent (R122, R130). -/
def State.pointLowest (s : State) : State :=
  { s with tuner := { s.tuner with pointer := s.enabledZones.head? } }

/-! ## The exit station's entries and ends (R132 to R146) -/

/-- The exit window of a record (R25, R137): signed ends, not clamped. -/
def windowLow (f : RecipeFields) (r : BilletRecord) : Int :=
  f.exitTarget + r.targetOffset - f.tolLow

/-- The high end of the exit window (R25, R137). -/
def windowHigh (f : RecipeFields) (r : BilletRecord) : Int :=
  f.exitTarget + r.targetOffset + f.tolHigh

/-- Arrival of the record that carries `tag` at the exit (R133). -/
def State.arrive (s : State) (tag : Nat) : State :=
  let s := s.modifyRecord tag fun r => { r with place := .exit }
  { s with exit := { s.exit with
      slot := some tag, state := .measuring, readings := [],
      windowTimer := some (s.clock.count + Config.windowMs) } }

/-- Entry into REJECTING with a decided outcome (R137). -/
def State.enterRejecting (s : State) (tag : Nat) (outcome : BilletOutcome) : State :=
  let s := s.modifyRecord tag fun r => { r with outcome := some outcome }
  { s with exit := { s.exit with
      state := .rejecting, waitRounds := none, windowTimer := none,
      transferTimer := some (s.clock.count + s.line.transferTimeout) } }.raise .reject

/-- The flag check and the cooling check of a READY billet (R138, checks 1 and 2). -/
def judgeReady (f : RecipeFields) (r : BilletRecord) : Option BilletOutcome :=
  if r.flags.any then some .rejectedFlagged
  else if (r.ts : Int) < windowLow f r then some .rejectedCooled
  else none

/-- The entry into TO_PRESS from READY with a take pending, or the rejection its judgment gives
(R141). -/
def State.serveTake (s : State) : State :=
  match s.exit.state, s.exit.slot.bind s.lookup with
  | .ready, some r =>
      if s.exit.pendingTakes = 0 then s
      else
        match judgeReady s.recipes[r.recipe].fields r with
        | some outcome => s.enterRejecting r.tag outcome
        | none =>
            { s with exit := { s.exit with
                state := .toPress, waitRounds := none, pendingTakes := s.exit.pendingTakes - 1,
                transferTimer := some (s.clock.count + s.line.transferTimeout) } }
  | _, _ => s

/-- The station gives up the record it holds, with the outcome that ends its time at the exit: the
record is retired and the slot is empty (R145, R19). -/
def State.vacate (s : State) (outcome : BilletOutcome) : State :=
  let s := (s.exit.slot.map fun tag => s.retire tag outcome).getD s
  { s with exit := { s.exit with
      slot := none, state := .empty, waitRounds := none, windowTimer := none,
      transferTimer := none } }

/-- The end of a transfer: retirement, then the exit-empty notice (R142, R143, R145, R154). -/
def State.endTransfer (s : State) (outcome : BilletOutcome) : State := (s.vacate outcome).drainTest

end Sys2Proof.Machine
end

