-- ==== Sys2Proof/Machine/Exit.lean ====
section
/-! DEFINITION. Machine/Exit.lean: the exit station (spec/08): PYROMETER_READING,
MEASUREMENT_WINDOW_EXPIRY, STEP_NOTICE, MARK_NOTICE, TAKE_EDGE, PRESS_DONE_EDGE, CHUTE_DONE_EDGE and
TRANSFER_TIMER_EXPIRY. -/

namespace Sys2Proof.Machine

/-! ## The measurement window (R134 to R137) -/

/-- One occurrence of the lowest and one of the highest value removed, and the rest averaged (R135). -/
def trimmedMean (readings : List Nat) : Nat :=
  (readings.sum - readings.foldl min (readings.headD 0) - readings.foldl max 0)
    / (readings.length - 2)

/-- The measured value of a window's valid readings (R135). -/
def measuredValue (readings : List Nat) : Option Nat :=
  if readings.length = 0 then none
  else if readings.length ≤ 3 then some (readings.sum / readings.length)
  else some (trimmedMean readings)

/-- The measured value less the record's modeled surface (R136, step 2). -/
def resyncDiff (measured : Nat) (r : BilletRecord) : Int := (measured : Int) - r.ts

/-- The record corrected to its measurement (R136, steps 1 and 3). -/
def resync (measured : Nat) (r : BilletRecord) : BilletRecord :=
  { r with
    measured := some measured
    ts := (clampInt 0 Config.tempMax measured).toNat
    tc := (clampInt 0 Config.tempMax (r.tc + resyncDiff measured r)).toNat }

/-- The exit decision on a measured billet: the rejection, or `none` for READY (R137, checks 2 to
5). -/
def decideExit (f : RecipeFields) (measured : Nat) (r : BilletRecord) : Option BilletOutcome :=
  if r.flags.any then some .rejectedFlagged
  else if (measured : Int) < windowLow f r then some .rejectedCold
  else if windowHigh f r < (measured : Int) then some .rejectedHot
  else none

/-- Entry into READY, going on to TO_PRESS when a take is pending (R137, R141). -/
def State.enterReady (s : State) : State :=
  ({ s with exit := { s.exit with
      state := .ready, waitRounds := some 0, windowTimer := none } }).serveTake

/-- Resync, and the adaptation update sent in RUN for an empty flag set (R136). -/
def State.applyResync (s : State) (r : BilletRecord) (measured : Nat) : State :=
  let s := s.modifyRecord r.tag (resync measured)
  if s.line.mode = .run && !r.flags.any then
    { s with mail := { s.mail with
      updates := s.mail.updates ++ [(r.recipe, resyncDiff measured r)] } }
  else s

/-- The close of the measurement window: measured value, resync, adaptation and decision (R135 to
R137). -/
def State.closeWindow (s : State) : State :=
  match s.exit.slot.bind s.lookup with
  | none => s
  | some r =>
      match measuredValue s.exit.readings with
      | none => s.enterRejecting r.tag .noReading
      | some measured =>
          let s := s.applyResync r measured
          match decideExit s.recipes[r.recipe].fields measured r with
          | some outcome => s.enterRejecting r.tag outcome
          | none => s.enterReady

/-- A valid reading is marked valid and lies at or below 16000 (R134). -/
def readingValid (value : Nat) (valid : Bool) : Bool := valid && value ≤ Config.tempMax

/-- A pyrometer reading at the station (R134); the 8th valid one closes the window (R135). -/
def State.takeReading (s : State) (value : Nat) (valid : Bool) : State :=
  if s.exit.state = .measuring then
    if readingValid value valid then
      let s := { s with exit := { s.exit with readings := s.exit.readings ++ [value] } }
      if 8 ≤ s.exit.readings.length then s.closeWindow else s
    else
      { s with exit := { s.exit with
          readingsInvalid := satAdd Config.counterMax s.exit.readingsInvalid 1 } }
  else
    { s with exit := { s.exit with
        readingsDiscarded := satAdd Config.counterMax s.exit.readingsDiscarded 1 } }

/-- PYROMETER_READING (R134). Readings in the hold of a controller restart are discarded (R167). -/
def execPyrometerReading (value : Nat) (valid : Bool) (s : State) :
    Host.Outcome State Fault Refusal :=
  s.event fun s => s.takeReading value valid

/-- The expiry of a running window timer (R135). -/
def State.expireWindow (s : State) : State :=
  match s.exit.windowTimer with
  | none => s
  | some due => if s.exit.state = .measuring then (s.reach due).closeWindow else s

/-- MEASUREMENT_WINDOW_EXPIRY (R135). -/
def execMeasurementWindowExpiry (s : State) : Host.Outcome State Fault Refusal :=
  s.event State.expireWindow

/-! ## The READY billet (R138, R139) -/

/-- The record a notice names, when the slot holds it. -/
def State.slotRecord (s : State) (ref : RecordRef) : Option BilletRecord :=
  if s.exit.slot = some ref.tag then s.lookupRef ref else none

/-- The wait check of a READY billet (R138, check 3). -/
def waitedOut (f : RecipeFields) (waited : Nat) : Bool := f.maxWait != 0 && f.maxWait ≤ waited

/-- The judgment of a READY billet at a step notice (R138). -/
def judgeWaiting (f : RecipeFields) (waited : Nat) (r : BilletRecord) : Option BilletOutcome :=
  match judgeReady f r with
  | some outcome => some outcome
  | none => if waitedOut f waited then some .rejectedCooled else none

/-- A step notice at the station (R138). -/
def State.actOnStep (s : State) (ref : RecordRef) : State :=
  match s.exit.state, s.slotRecord ref with
  | .ready, some r =>
      let waited := satAdd Config.counterMax (s.exit.waitRounds.getD 0) 1
      let s := { s with exit := { s.exit with waitRounds := some waited } }
      match judgeWaiting s.recipes[r.recipe].fields waited r with
      | some outcome => s.enterRejecting r.tag outcome
      | none => s
  | _, _ => s

/-- The station takes the oldest step notice. -/
def State.takeStep (s : State) : State :=
  match s.mail.steps with
  | [] => s
  | ref :: rest => { s with mail := { s.mail with steps := rest } }.actOnStep ref

/-- STEP_NOTICE (R138). -/
def execStepNotice (s : State) : Host.Outcome State Fault Refusal := s.event State.takeStep

/-- A mark notice at the station (R139). -/
def State.actOnMark (s : State) (ref : RecordRef) : State :=
  match s.exit.state, s.slotRecord ref with
  | .ready, some r => s.enterRejecting r.tag .rejectedFlagged
  | _, _ => s

/-- The station takes the oldest mark notice. -/
def State.takeMark (s : State) : State :=
  match s.mail.marks with
  | [] => s
  | ref :: rest => { s with mail := { s.mail with marks := rest } }.actOnMark ref

/-- MARK_NOTICE (R139). -/
def execMarkNotice (s : State) : Host.Outcome State Fault Refusal := s.event State.takeMark

/-! ## Takes and transfers (R140 to R144) -/

/-- A TAKE edge (R140, R141). -/
def State.takeRequest (s : State) : State :=
  (if s.exit.pendingTakes < 2 then
    { s with exit := { s.exit with pendingTakes := s.exit.pendingTakes + 1 } }
  else
    { s with exit := { s.exit with
        takeOverflows := satAdd Config.counterMax s.exit.takeOverflows 1 } }).serveTake

/-- TAKE_EDGE: a transition of TAKE (R140, R181). -/
def execTakeEdge (t : Transition) (s : State) : Host.Outcome State Fault Refusal :=
  ({ s with pins := { s.pins with take := transitionLevel t } }).event fun s =>
    if s.link.edges.take.counts t then s.takeRequest else s

/-- A PRESS_DONE edge (R142, R144). -/
def State.pressDone (s : State) : State :=
  if s.exit.state = .toPress then s.endTransfer .forged
  else
    { s with exit := { s.exit with
        strayPressDone := satAdd Config.counterMax s.exit.strayPressDone 1 } }

/-- PRESS_DONE_EDGE: a transition of PRESS_DONE (R142, R144, R181). -/
def execPressDoneEdge (t : Transition) (s : State) : Host.Outcome State Fault Refusal :=
  ({ s with pins := { s.pins with pressDone := transitionLevel t } }).event fun s =>
    if s.link.edges.pressDone.counts t then s.pressDone else s

/-- The outcome decided at the entry into REJECTING, as it stands in the record (R143). -/
def State.decidedOutcome (s : State) : BilletOutcome :=
  ((s.exit.slot.bind s.lookup).bind (·.outcome)).getD .transferLost

/-- A CHUTE_DONE edge (R143, R144). -/
def State.chuteDone (s : State) : State :=
  if s.exit.state = .rejecting then s.endTransfer s.decidedOutcome
  else
    { s with exit := { s.exit with
        strayChuteDone := satAdd Config.counterMax s.exit.strayChuteDone 1 } }

/-- CHUTE_DONE_EDGE: a transition of CHUTE_DONE (R143, R144, R181). -/
def execChuteDoneEdge (t : Transition) (s : State) : Host.Outcome State Fault Refusal :=
  ({ s with pins := { s.pins with chuteDone := transitionLevel t } }).event fun s =>
    if s.link.edges.chuteDone.counts t then s.chuteDone else s

/-- A transfer is under way (R142, R143). -/
def StationState.transferring : StationState → Bool
  | .empty => false
  | .measuring => false
  | .ready => false
  | .rejecting => true
  | .toPress => true

/-- The expiry of a running transfer timer (R142, R143). -/
def State.expireTransfer (s : State) : State :=
  match s.exit.transferTimer with
  | none => s
  | some due =>
      if s.exit.state.transferring then (s.reach due).endTransfer .transferLost else s

/-- TRANSFER_TIMER_EXPIRY (R142, R143). -/
def execTransferTimerExpiry (s : State) : Host.Outcome State Fault Refusal :=
  s.event State.expireTransfer

end Sys2Proof.Machine
end

