-- ==== Sys2Proof/Machine/Thermal.lean ====
section
/-! DEFINITION. Machine/Thermal.lean: the heat model unit (spec/03): the division of a zone's energy,
the thermal step, demand, and the taking of energy and unheated reports. -/

namespace Sys2Proof.Machine

/-! ## Dividing a zone's energy (R41) -/

/-- The sum of the masses of the listed entries (R41, step 1). -/
def massSum (entries : List ReportEntry) : Nat := (entries.map (·.mass)).sum

/-- Each entry's truncated share (R41, step 2). -/
def baseShares (energy : Nat) (entries : List ReportEntry) : List Nat :=
  entries.map fun e => energy * e.mass / massSum entries

/-- Add the remainder to the last share: entries stand in ascending position order, so the last has
the highest listed position (R38, R41 step 3). -/
def addToLast (extra : Nat) : List Nat → List Nat
  | [] => []
  | [x] => [x + extra]
  | x :: y :: rest => x :: addToLast extra (y :: rest)

/-- The shares of a zone's energy, summing to it (R41). -/
def shares (energy : Nat) (entries : List ReportEntry) : List Nat :=
  let base := baseShares energy entries
  addToLast (energy - base.sum) base

/-- The share a report gives the record named by tag and load_seq, if it lists it. -/
def shareOf (shared : List (ReportEntry × Nat)) (r : BilletRecord) : Option Nat :=
  (shared.find? fun (e, _) => e.tag == r.tag && e.loadSeq == r.loadSeq).map Prod.snd

/-! ## The thermal step (R44 to R49) -/

/-- Stage 1: the mean temperature rise (R45). -/
def meanRise (energy mass cp : Nat) : Nat := energy * 10000 / (mass * cp)

/-- The share s: s_low for band LOW, s_high for HIGH; with no band either serves, since E is 0
(R44). -/
def bandShare (f : RecipeFields) : Option Band → Nat
  | some .high => f.sHigh
  | some .low => f.sLow
  | none => f.sLow

/-- Stage 2, surface: Ts1 (R45). -/
def heatSurface (ts rise share : Nat) : Nat := min Config.tempMax (ts + rise * share / 500)

/-- Stage 2, core: Tc1 (R45). -/
def heatCore (tc rise share : Nat) : Nat := min Config.tempMax (tc + rise * (1000 - share) / 500)

/-- Stage 3: the transfer q from surface to core, truncated toward zero (R46). -/
def transfer (ts1 tc1 g : Nat) : Int := (((ts1 : Int) - tc1) * g).tdiv 1000

/-- Stage 4: the surface's loss L, truncated toward zero (R47). -/
def surfaceLoss (ts2 : Int) (tAmb l : Nat) : Int := ((ts2 - tAmb) * l).tdiv 1000

/-- The temperatures of a step: Ts3 before the final clamp, and Tc2 (R45 to R47). -/
def stepTemps (f : RecipeFields) (tAmb : Nat) (band : Option Band) (energy : Nat)
    (r : BilletRecord) : Int × Int :=
  let rise := meanRise energy r.mass f.cp
  let share := bandShare f band
  let ts1 := heatSurface r.ts rise share
  let tc1 := heatCore r.tc rise share
  let q := transfer ts1 tc1 f.equalization
  let ts2 : Int := ts1 - q
  (ts2 - surfaceLoss ts2 tAmb f.loss, tc1 + q)

/-- A temperature as it is written into a record: clamped to 0 to 16000 (R3, R47). -/
def clampTemp (t : Int) : Nat := (clampInt 0 Config.tempMax t).toNat

/-- HOLD or TRIPPED, the modes that count soak_rounds (R48). -/
def LineMode.soaks : LineMode → Bool
  | .stopped => false
  | .run => false
  | .hold => true
  | .drain => false
  | .service => false
  | .tripped => true

/-- Whether a place is ROW. -/
def Place.isRow : Place → Bool
  | .queued => false
  | .row _ => true
  | .exit => false

/-- Whether a place is ROW or EXIT. -/
def Place.inLine : Place → Bool
  | .queued => false
  | .row _ => true
  | .exit => true

/-- One thermal step of a record (R44 to R49). -/
def thermalStep (f : RecipeFields) (tAmb : Nat) (mode : LineMode) (band : Option Band)
    (energy : Nat) (r : BilletRecord) : BilletRecord :=
  let (ts3, tc2) := stepTemps f tAmb band energy r
  let rows := if r.place.isRow then satAdd Config.counterMax r.rowsRounds 1 else r.rowsRounds
  let soak :=
    if r.place.isRow && mode.soaks then satAdd Config.counterMax r.soakRounds 1 else r.soakRounds
  { r with
    ts := clampTemp ts3
    tc := clampTemp tc2
    energy := satAdd Config.energyMax r.energy energy
    rowsRounds := rows
    soakRounds := soak
    flags := { r.flags with
      overheat := r.flags.overheat || decide ((f.tsMax : Int) + 500 < ts3)
      soakExceeded := r.flags.soakExceeded || (f.maxSoak != 0 && decide (f.maxSoak ≤ soak)) } }

/-- One thermal step of a record with what the state gives it: its recipe, T_amb and the line mode
(R44). -/
def State.stepped (s : State) (band : Option Band) (energy : Nat) (r : BilletRecord) :
    BilletRecord :=
  thermalStep s.recipes[r.recipe].fields s.line.tAmb s.line.mode band energy r

/-! ## Demand (R51 to R56) -/

/-- The current cadence, computed whenever it is read (R74). -/
def State.cadence (s : State) : Nat :=
  if s.row.cadenceHistory.length < 4 then s.line.nominalCadence
  else clampNat 1 3000 (s.row.cadenceHistory.sum / 4)

/-- The target T* of a record in a zone, clamped; `none` in the modes whose demand is 0 (R51, R53). -/
def targetOf (mode : LineMode) (f : RecipeFields) (z : ZoneId) (offset : Int) : Option Int :=
  match mode with
  | .run => some (clampInt 0 Config.tempMax (f.zoneTarget[z] + offset))
  | .drain => some (clampInt 0 Config.tempMax (f.zoneTarget[z] + offset))
  | .hold => some (clampInt 0 Config.tempMax (f.holdTemp + offset))
  | .stopped => none
  | .service => none
  | .tripped => none

/-- The mean temperature Tm (R3). -/
def BilletRecord.mean (r : BilletRecord) : Nat := (r.ts + r.tc) / 2

/-- The rounds left of a billet at `position` in a zone whose last position is `lastPos` (R54). -/
def roundsLeft (mode : LineMode) (lastPos position cadence : Nat) : Nat :=
  if mode = .hold then Config.holdHorizon else (lastPos - position + 1) * cadence

/-- A billet's need in joules per round, with its guards (R53, R55). -/
def need (target : Int) (e : Recipe) (rounds : Nat) (r : BilletRecord) : Nat :=
  let lag := target - ((r.mean : Int) + e.bias)
  if lag ≤ 0 then 0
  else
    let d := lag.toNat * r.mass * e.fields.cp / 10000 / rounds
    if e.fields.tsMax ≤ r.ts then 0
    else if (e.fields.gradMax : Int) ≤ (r.ts : Int) - r.tc then d / 2
    else d

/-- The zone's power for a sum of needs: through the efficiency, then fitted to the limits (R56). -/
def powerFor (needs effUsed : Nat) (m : ZoneMap) : Nat :=
  if needs = 0 then 0
  else
    let p := min m.maxKW (ceilDiv (needs * 5) effUsed)
    if 0 < p && p < m.minKW then m.minKW else p

/-- The positions of a range, ascending. -/
def positionsFrom (first last : Nat) : List Nat :=
  (List.range (last + 1 - first)).map fun k => first + k

/-- The needs of the billets that stand in a zone (R52, R53). A disabled zone has no target for a billet
(R24), and its positions lie outside every enabled zone (R78), so it has none. -/
def State.needsOf (s : State) (z : ZoneId) : List Nat :=
  let m := s.zones[z].map
  if m.enabled then
    (positionsFrom m.firstPos m.lastPos).filterMap fun p =>
      (s.row.tagAt p).bind fun tag =>
        (s.lookup tag).bind fun r =>
          let e := s.recipes[r.recipe]
          (targetOf s.line.mode e.fields z r.targetOffset).map fun target =>
            need target e (roundsLeft s.line.mode m.lastPos p s.cadence) r
  else []

/-- The zone's demand P_dem in kW as the state stands (R51 to R56). DEDUCED (log entry 20): a zone that
was disabled after the boundary of its report has demand 0, and its demand report is still sent. -/
def State.demandOf (s : State) (z : ZoneId) : Nat :=
  powerFor (s.needsOf z).sum (s.zones[z].effUsed s.tuner.window) s.zones[z].map

/-! ## Taking a report (R37, R40 to R43, R50) -/

/-- The step notices of a report: one for each listed record that is live and at the exit (R50). -/
def State.stepNotices (s : State) (entries : List ReportEntry) : List RecordRef :=
  entries.filterMap fun e =>
    (s.lookupRef { tag := e.tag, loadSeq := e.loadSeq }).bind fun r =>
      if r.place = .exit then some { tag := e.tag, loadSeq := e.loadSeq } else none

/-- Each matched record receives its step, and the notices go to the exit station (R41, R43, R50). -/
def State.stepEntries (s : State) (band : Option Band) (shared : List (ReportEntry × Nat)) : State :=
  { s with
    pool := { s.pool with
      records := s.pool.records.map fun r =>
        match shareOf shared r with
        | none => r
        | some energy => s.stepped band energy r }
    mail := { s.mail with steps := s.mail.steps ++ s.stepNotices (shared.map Prod.fst) } }

/-- The part of E_z that reaches no record: all of it for an empty list, else the shares of the
skipped entries (R42). -/
def State.idleShare (s : State) (energy : Nat) (shared : List (ReportEntry × Nat)) : Nat :=
  match shared with
  | [] => energy
  | _ :: _ =>
      ((shared.filter fun (e, _) =>
        (s.lookupRef { tag := e.tag, loadSeq := e.loadSeq }).isNone).map Prod.snd).sum

/-- What taking a report does: steps, and for an energy report the idle credit and then the demand
report (R41, R42, R51, R57). -/
def State.absorb (s : State) (report : Report) : State :=
  match report.source with
  | .unheated => s.stepEntries none (report.entries.map fun e => (e, 0))
  | .zone z energy band =>
      let shared := report.entries.zip (shares energy report.entries)
      let credit := s.idleShare energy shared
      let s := s.stepEntries (some band) shared
      { s with mail := { s.mail with
          credits := s.mail.credits ++ [(z, credit)]
          demands := s.mail.demands ++
            [{ zone := z, boundaryTime := report.boundaryTime, demand := s.demandOf z }] } }

/-- Whose report it is. -/
def Report.isFrom (origin : Option ZoneId) (report : Report) : Bool :=
  match report.source, origin with
  | .unheated, none => true
  | .zone z _ _, some y => z == y
  | .unheated, some _ => false
  | .zone _ _ _, none => false

/-- The heat model unit takes the oldest held report of one origin. A report of a later boundary waits
while a report of an earlier one is held (R37). -/
def State.takeReport (s : State) (origin : Option ZoneId) : State :=
  match s.mail.reports, takeFirst (Report.isFrom origin) s.mail.reports with
  | oldest :: _, some (report, rest) =>
      if report.boundaryTime = oldest.boundaryTime then
        { s with mail := { s.mail with reports := rest } }.absorb report
      else s
  | _, _ => s

/-- ENERGY_REPORT (R41 to R57). -/
def execEnergyReport (zone : ZoneId) (s : State) : Host.Outcome State Fault Refusal :=
  s.event fun s => s.takeReport (some zone)

/-- UNHEATED_REPORT (R40). -/
def execUnheatedReport (s : State) : Host.Outcome State Fault Refusal :=
  s.event fun s => s.takeReport none

end Sys2Proof.Machine
end

