-- ==== Sys2Proof/Machine/Feeder.lean ====
section
/-! DEFINITION. Machine/Feeder.lean: the feeder arbiter and the round (spec/06; the zone channels' part
of the boundary, spec/05): ROUND_BOUNDARY and DEMAND_REPORT, with the arbitration both can make. -/

namespace Sys2Proof.Machine

/-! ## The arbitration (R104 to R112, R114, R116) -/

/-- A zone is running when its state is STARTING or ON (section 6.3). -/
def ZoneState.running : ZoneState → Bool
  | .off => false
  | .starting => true
  | .on => true
  | .stopping => false
  | .tuning => false
  | .faulted => false

/-- A zone has met MIN_ON when it is ON with an on-time of 2000 ms or more (section 6.3). -/
def ZoneChannel.metMinOn (now : Nat) (z : ZoneChannel) : Bool :=
  z.state = .on && z.onSince.any fun since => Config.minOnMs ≤ now - since

/-- A running zone that has not met MIN_ON is committed to its min_kW (R106). -/
def ZoneChannel.committed (now : Nat) (z : ZoneChannel) : Bool :=
  z.state.running && !z.metMinOn now

/-- Stage 1: the first exclusion that holds (R105). -/
def State.exclusion (s : State) (z : ZoneId) : Option Disposition :=
  let c := s.zones[z]
  let met := c.metMinOn s.clock.count
  if c.state = .stopping || c.state = .tuning || c.state = .faulted then some .exclState
  else if met && c.pendingBand.isSome then some .exclBand
  else if s.tuner.pointer = some z && s.tuner.window ≤ c.tuningAge && (c.state = .off || met) then
    some .exclTuning
  else none

/-- The start eligibility of an OFF zone at `now` (R111). -/
def eligible (now : Nat) (history : List Nat) : Bool :=
  (history.getLast?.all fun newest => Config.startSpacingMs ≤ now - newest)
    && (history.filter fun t => now - t < Config.startWindowMs).length < 4

/-- A start entered in the start history, at most four entries, oldest first (R112). -/
def enterStart (now : Nat) (history : List Nat) : List Nat :=
  (if history.length < 4 then history else history.drop 1) ++ [now]

/-- What an arbitration carries from step to step: the budget B, the start history, the deferred starts
of this arbitration, each zone's entry, and its share in the level pass. -/
structure Pass where
  budget : Nat
  history : List Nat
  deferred : Nat
  entries : Vector (Option ZoneSettlement) 12
  shares : Vector Nat 12
deriving DecidableEq, Repr

/-- A zone's entry after stages 1 and 2 (R105, R106). A zone that the level pass then finds with want 0
keeps it: COMMITTED with its minimum, or NO_DEMAND (R107). -/
def State.openingEntry (s : State) (z : ZoneId) : Option ZoneSettlement :=
  if s.feeder.expected[z] then
    let demand := s.feeder.demands[z].getD 0
    match s.exclusion z with
    | some why => some { demand := demand, committed := 0, grant := 0, disposition := why }
    | none =>
        if s.zones[z].committed s.clock.count then
          let least := s.zones[z].map.minKW
          some { demand := demand, committed := least, grant := least, disposition := .committed }
        else some { demand := demand, committed := 0, grant := 0, disposition := .noDemand }
  else none

/-- Stages 1 and 2: the entries, and the budget left by the committed minimums (R105, R106). -/
def State.openPass (s : State) : Pass :=
  let entries := Vector.ofFn s.openingEntry
  { budget := s.feeder.feederLimit
      - (entries.toList.map fun e => (e.map (·.committed)).getD 0).sum
    history := s.feeder.startHistory, deferred := 0, entries := entries,
    shares := Vector.replicate 12 0 }

/-- A zone takes a share of B in the level pass: its grant is its committed amount plus the share. -/
def Pass.give (p : Pass) (z : ZoneId) (e : ZoneSettlement) (share : Nat) : Pass :=
  { p with
    budget := p.budget - share
    entries := p.entries.set z
      (some { e with grant := e.committed + share, disposition := .granted })
    shares := p.shares.set z share }

/-- A zone's entry with a grant of 0 and the reason. -/
def Pass.deny (p : Pass) (z : ZoneId) (e : ZoneSettlement) (why : Disposition) : Pass :=
  { p with entries := p.entries.set z (some { e with grant := 0, disposition := why }) }

/-- One zone's step of the level pass (R107 to R109). -/
def State.levelStep (s : State) (p : Pass) (z : ZoneId) : Pass :=
  match p.entries[z] with
  | none => p
  | some e =>
      let c := s.zones[z]
      let want := e.demand - e.committed
      let share := min want p.budget
      if want = 0 then p
      else if c.committed s.clock.count then
        if share = 0 then p else p.give z e share
      else if share < c.map.minKW then p.deny z e .belowMin
      else if c.state.running then p.give z e share
      else if eligible s.clock.count p.history then
        let p := p.give z e share
        { p with history := enterStart s.clock.count p.history }
      else
        let p := p.deny z e .deferred
        { p with deferred := p.deferred + 1 }

/-- Ascending cyclic order starting from the number after `n` (spec/00, R107). -/
def cyclicAfter (n : ZoneId) : List ZoneId := (List.finRange 12).map fun k => n + k + 1

/-- A level's zones in its service order: expected, at the level and not excluded (R107). -/
def State.serviceOrder (s : State) (l : Level) : List ZoneId :=
  (cyclicAfter s.feeder.pointers[l]).filter fun z =>
    s.feeder.expected[z] && s.zones[z].map.level = l && (s.exclusion z).isNone

/-- Stage 3: levels 0, 1, 2 and 3 in that order (R107). -/
def State.levelPass (s : State) (p : Pass) : Pass :=
  (List.finRange 4).foldl (fun p l => (s.serviceOrder l).foldl s.levelStep p) p

/-- Stage 4: each level's pointer moves to the first zone of its service order that took a share
(R110). -/
def State.newPointers (s : State) (p : Pass) : Vector ZoneId 4 :=
  Vector.ofFn fun l =>
    ((s.serviceOrder l).find? fun z => 0 < p.shares[z]).getD s.feeder.pointers[l]

/-- The settlement of an arbitration in STOPPED, SERVICE or TRIPPED: every expected zone is given 0
(R104). -/
def State.idlePass (s : State) : Pass :=
  { budget := 0, history := s.feeder.startHistory, deferred := 0,
    entries := Vector.ofFn fun z =>
      if s.feeder.expected[z] then
        some { demand := s.feeder.demands[z].getD 0, committed := 0, grant := 0,
               disposition := .mode }
      else none
    shares := Vector.replicate 12 0 }

/-- The pass an arbitration makes in the mode that stands (R104). -/
def State.arbitrationPass (s : State) : Pass :=
  if s.line.mode.production then s.levelPass s.openPass else s.idlePass

/-- The grants of a settled round, in ascending zone number (R114). -/
def grantsOf (entries : Vector (Option ZoneSettlement) 12) : List (ZoneId × Nat) :=
  (List.finRange 12).filterMap fun z => entries[z].map fun e => (z, e.grant)

/-- The arbitration (R104): the pass, the grants, the round notice and the settlement record. -/
def State.arbitrate (s : State) : State :=
  let p := s.arbitrationPass
  { s with
    feeder := { s.feeder with
      collection := .settled
      pointers := if s.line.mode.production then s.newPointers p else s.feeder.pointers
      startHistory := p.history
      deferredStarts := satAdd Config.counterMax s.feeder.deferredStarts p.deferred
      settlement := some {
        roundTime := s.feeder.collectionTime, settledAt := s.clock.count, mode := s.line.mode,
        limit := s.feeder.feederLimit, budgetLeft := p.budget, zones := p.entries } }
    mail := { s.mail with
      grants := s.mail.grants ++ grantsOf p.entries
      notices := s.mail.notices ++
        [{ collectionTime := s.feeder.collectionTime,
           grants := Vector.ofFn fun z => p.entries[z].map (·.grant) }] } }

/-- The collection is complete: one entry for every expected zone (R102, R103). -/
def Arbiter.complete (a : Arbiter) : Bool :=
  (List.finRange 12).all fun z => !a.expected[z] || a.demands[z].isSome

/-- Whether a demand report is entered in the collection (R103). -/
def Arbiter.admits (a : Arbiter) (m : DemandMessage) : Bool :=
  a.collection = CollectionState.collecting && m.boundaryTime = a.collectionTime && a.expected[m.zone]
    && a.demands[m.zone].isNone

/-- A demand report at the arbiter: entered, and the arbitration made when it completes the collection;
otherwise discarded (R103). -/
def State.enterDemand (s : State) (m : DemandMessage) : State :=
  if s.feeder.admits m then
    let s := { s with feeder := { s.feeder with
      demands := s.feeder.demands.set m.zone (some m.demand) } }
    if s.feeder.complete then s.arbitrate else s
  else s

/-- The arbiter takes a zone's oldest demand report. -/
def State.takeDemand (s : State) (z : ZoneId) : State :=
  match takeFirst (fun m => m.zone == z) s.mail.demands with
  | none => s
  | some (m, rest) => { s with mail := { s.mail with demands := rest } }.enterDemand m

/-- DEMAND_REPORT (R103). -/
def execDemandReport (zone : ZoneId) (s : State) : Host.Outcome State Fault Refusal :=
  s.event fun s => s.takeDemand zone

/-! ## The round boundary (R101; R38 to R40, R71, R92, R94, R102) -/

/-- The energy metered in the round, E_z in joules (R94, step 1). -/
def ZoneChannel.metered (window : Nat) (z : ZoneChannel) : Nat :=
  z.meteredGrant * z.qOn * Config.quantumMs * z.effUsed window / 1000

/-- The band an energy report carries (R94, step 2). -/
def ZoneChannel.reportBand (z : ZoneChannel) : Band := if 0 < z.qOn then z.meteredBand else z.band

/-- The list entry of the record in a row position (R38). -/
def State.entryAt (s : State) (p : Nat) : Option ReportEntry :=
  (s.row.tagAt p).bind fun tag =>
    (s.lookup tag).map fun r =>
      { tag := r.tag, loadSeq := r.loadSeq, mass := r.mass, position := some p }

/-- The energy report a zone channel sends at a boundary, if it is enabled (R38, R94). -/
def State.energyReportOf (s : State) (z : ZoneId) : Option Report :=
  let c := s.zones[z]
  if c.map.enabled then
    some { source := .zone z (c.metered s.tuner.window) c.reportBand, boundaryTime := s.clock.count,
           entries := (positionsFrom c.map.firstPos c.map.lastPos).filterMap s.entryAt }
  else none

/-- Whether a position lies in some enabled zone's range (R39). -/
def State.covered (s : State) (p : Nat) : Bool :=
  (List.finRange 12).any fun z =>
    s.zones[z].map.enabled && s.zones[z].map.firstPos ≤ p && p ≤ s.zones[z].map.lastPos

/-- The list entry of the exit slot's record; its listed position is absent (R40). -/
def State.exitEntry (s : State) : Option ReportEntry :=
  (s.exit.slot.bind s.lookup).map fun r =>
    { tag := r.tag, loadSeq := r.loadSeq, mass := r.mass, position := none }

/-- The unheated report of a boundary (R40). -/
def State.unheatedReportOf (s : State) : Report :=
  { source := .unheated, boundaryTime := s.clock.count,
    entries := ((List.range 40).filter fun p => !s.covered p).filterMap s.entryAt
      ++ s.exitEntry.toList }

/-- The reports of a boundary: the enabled zones' in ascending order, then the unheated one (R39). -/
def State.boundaryReports (s : State) : List Report :=
  (List.finRange 12).filterMap s.energyReportOf ++ [s.unheatedReportOf]

/-- The SETPOINT a channel sends at a boundary: in ON, when the next grant differs from the one in
force (R92). -/
def ZoneChannel.boundarySetpoint (z : ZoneChannel) : Option InverterCommand :=
  match z.state, z.nextGrant with
  | .on, some g => if g = z.grantInForce then none else some (.setpoint g)
  | _, _ => none

/-- A channel puts its next grant in force (R92). -/
def ZoneChannel.adoptGrant (z : ZoneChannel) : ZoneChannel :=
  match z.nextGrant with
  | none => z
  | some g =>
      if z.state.running then { z with grantInForce := g, meteredGrant := g, nextGrant := none }
      else z

/-- A channel's part of the boundary: grant, age, and the meter opened for the new round (R94, steps 3
to 5). -/
def ZoneChannel.boundary (z : ZoneChannel) : ZoneChannel :=
  { z.adoptGrant with
    tuningAge := satAdd Config.counterMax z.tuningAge 1
    qOn := 0 }

/-- A channel's aging step makes it overdue (R124). -/
def ZoneChannel.becomesOverdue (window : Nat) (z : ZoneChannel) : Bool :=
  z.map.enabled && z.tuningAge < window && window ≤ satAdd Config.counterMax z.tuningAge 1

/-- The zone channels' and the heat model unit's part of the boundary (R94, R39, R40, R124). -/
def State.closeMeters (s : State) : State :=
  { s with
    zones := Vector.ofFn fun z => s.zones[z].boundary
    mail := { s.mail with reports := s.mail.reports ++ s.boundaryReports }
    sent := s.sent ++ (List.finRange 12).filterMap fun z =>
      (ZoneChannel.boundarySetpoint s.zones[z]).map fun c => (z, c)
    }.raiseIf (s.zones.toList.any (ZoneChannel.becomesOverdue s.tuner.window)) .tuneOverdue

/-- The row tracker's part of the boundary (R71). -/
def State.countRound (s : State) : State :=
  { s with row := { s.row with cadenceCount := s.row.cadenceCount.map fun n => satAdd 3000 n 1 } }

/-- The time base's part of the boundary, and the round timer's next round (R101, R164). DESIGN CHOICE
(log entry 21): a boundary taken later than its due count begins the next 200 ms at the count at which
it is taken. -/
def State.markBoundary (s : State) : State :=
  { s with
    clock := { s.clock with lastBoundary := s.clock.count }
    feeder := { s.feeder with roundStart := s.clock.count } }

/-- The arbiter's part of the boundary: a collection still open is closed unsettled (R103), the new one
is opened over the enabled zones, and it is complete at once when there are none (R102). -/
def State.openCollection (s : State) : State :=
  let s := { s with feeder := { s.feeder with
    unsettledRounds :=
      if s.feeder.collection = CollectionState.collecting then satAdd Config.counterMax s.feeder.unsettledRounds 1
      else s.feeder.unsettledRounds
    collection := .collecting
    collectionTime := s.clock.count
    expected := Vector.ofFn fun z => s.zones[z].map.enabled
    demands := Vector.replicate 12 none } }
  if s.feeder.complete then s.arbitrate else s

/-- A round boundary: 200 ms after the round timer's start the time base reads its count, and every
block does its part (R101). -/
def State.takeBoundary (s : State) : State :=
  ((((s.reach (s.feeder.roundStart + Config.roundMs)).closeMeters).countRound).markBoundary
    ).openCollection

/-- ROUND_BOUNDARY (R101). -/
def execRoundBoundary (s : State) : Host.Outcome State Fault Refusal := s.event State.takeBoundary

end Sys2Proof.Machine
end

