-- ==== Sys2Proof/Machine/Link.lean ====
section
/-! DEFINITION. Machine/Link.lean: the line link (spec/11): FRAME_ERROR, NOP, READ_STATUS, READ_LINE,
ACK_ATTENTION, SET_MASKS and SET_EDGES. -/

namespace Sys2Proof.Machine

/-- The status a failed frame check gives (R173). -/
def frameStatus : FrameCheck → Status
  | .frameLength => .badLength
  | .crc => .linkCrc
  | .requestCode => .unknownRequest
  | .payloadLength => .badLength

/-- The link counter a failed frame check raises (R173). -/
def LineLink.countFailure (l : LineLink) : FrameCheck → LineLink
  | .frameLength => { l with lengthErrors := satAdd Config.counterMax l.lengthErrors 1 }
  | .crc => { l with crcErrors := satAdd Config.counterMax l.crcErrors 1 }
  | .requestCode => { l with unknownRequests := satAdd Config.counterMax l.unknownRequests 1 }
  | .payloadLength => { l with lengthErrors := satAdd Config.counterMax l.lengthErrors 1 }

/-- A failing frame: its status with no payload, its counter, and LINK_ERROR (R173). -/
def State.failFrame (s : State) (check : FrameCheck) : Response × State :=
  ({ status := frameStatus check, payload := .none },
    { s with link := s.link.countFailure check }.raise .linkError)

/-- FRAME_ERROR (R173). -/
def execFrameError (check : FrameCheck) (clocked : Nat) (s : State) :
    Host.Outcome State Fault Refusal :=
  s.request clocked fun s => s.failFrame check

/-- NOP: it collects a pending response and puts nothing in its place (R175). -/
def execNop (clocked : Nat) (s : State) : Host.Outcome State Fault Refusal :=
  s.transaction clocked fun s => s

/-- READ_STATUS data (R176). -/
def State.statusView (s : State) : StatusView :=
  { mode := s.line.mode, flags := s.link.flags, masks := s.link.masks, attention := s.attention,
    liveRecords := s.pool.records.length, queueLength := s.pool.queue.length,
    timeCount := s.clock.count, restartCount := s.restart.count,
    lengthErrors := s.link.lengthErrors, crcErrors := s.link.crcErrors,
    unknownRequests := s.link.unknownRequests, responsesLost := s.link.responsesLost }

/-- READ_STATUS (R176). -/
def execReadStatus (clocked : Nat) (s : State) : Host.Outcome State Fault Refusal :=
  s.request clocked fun s => accept (.status s.statusView) s

/-- The settlement record as READ_LINE reports it: while it is absent, with round_time 0 and every zone
entry absent (R116); its other four quantities are then free values (log entry 23). -/
def State.reportedSettlement (s : State) : Settlement :=
  s.feeder.settlement.getD
    { Config.openSettlement with roundTime := 0, zones := Vector.replicate 12 none }

/-- READ_LINE data (R177). -/
def State.lineView (s : State) : LineView :=
  { mode := s.line.mode, tripCause := s.line.tripCause, holdCause := s.line.holdCause,
    faultLatch := s.line.faultLatch, autoHold := s.line.autoHold,
    parameters :=
      { feederLimit := s.feeder.feederLimit, nominalCadence := s.line.nominalCadence,
        queueLow := s.line.queueLow, tAmb := s.line.tAmb, holdDelay := s.line.holdDelay,
        transferTimeout := s.line.transferTimeout, tuningWindow := s.tuner.window },
    rowLength := s.row.length, stroke := s.row.stroke, fwdRepeats := s.row.fwdRepeats,
    homeUnmatched := s.row.homeUnmatched, permitViolations := s.row.permitViolations,
    cadenceCount := s.row.cadenceCount, cadenceHistory := s.row.cadenceHistory,
    cadence := s.cadence, collection := s.feeder.collection, pointers := s.feeder.pointers,
    startHistory := s.feeder.startHistory, deferredStarts := s.feeder.deferredStarts,
    unsettledRounds := s.feeder.unsettledRounds, settlement := s.reportedSettlement,
    tuningPointer := s.tuner.pointer, overdue := s.overdueZones,
    regularZone := s.tuner.regularZone, tuneAllState := s.tuner.allState,
    tuneAllList := s.tuner.allList, station := s.exit.state, exitTag := s.exit.slot,
    pendingTakes := s.exit.pendingTakes, readingsInvalid := s.exit.readingsInvalid,
    readingsDiscarded := s.exit.readingsDiscarded, takeOverflows := s.exit.takeOverflows,
    strayPressDone := s.exit.strayPressDone, strayChuteDone := s.exit.strayChuteDone,
    timeCount := s.clock.count, lastBoundary := s.clock.lastBoundary,
    restartCount := s.restart.count, lastRestart := s.restart.last }

/-- READ_LINE (R177). -/
def execReadLine (clocked : Nat) (s : State) : Host.Outcome State Fault Refusal :=
  s.request clocked fun s => accept (.line s.lineView) s

/-- ACK_ATTENTION (R179). Its refusal carries no data (log entry 22), as do those of SET_MASKS and
SET_EDGES below. -/
def State.acknowledge (s : State) (flagSet : Nat) : Response × State :=
  if flagsNamed flagSet then
    let after := clearFlags s.link.flags (BitVec.ofNat 10 flagSet)
    accept (.flags s.link.flags after) { s with link := { s.link with flags := after } }
  else refuse .badValue s

/-- ACK_ATTENTION (R179). -/
def execAckAttention (clocked flagSet : Nat) (s : State) : Host.Outcome State Fault Refusal :=
  s.request clocked fun s => s.acknowledge flagSet

/-- SET_MASKS (R180). -/
def State.replaceMasks (s : State) (maskSet : Nat) : Response × State :=
  if flagsNamed maskSet then
    let masks := BitVec.ofNat 10 maskSet
    accept (.masks masks s.link.flags) { s with link := { s.link with masks := masks } }
  else refuse .badValue s

/-- SET_MASKS (R180). -/
def execSetMasks (clocked maskSet : Nat) (s : State) : Host.Outcome State Fault Refusal :=
  s.request clocked fun s => s.replaceMasks maskSet

/-- SET_EDGES (R181), in STOPPED and SERVICE only (R161). -/
def State.replaceEdges (s : State) (f : EdgeFields) : Response × State :=
  if !s.line.mode.idle then refuse .wrongMode s
  else
    match edgesOf f with
    | none => refuse .badValue s
    | some e =>
        accept
          (.edges e s.pins.pushFwd s.pins.pushHome s.pins.take s.pins.pressDone s.pins.chuteDone)
          { s with link := { s.link with edges := e } }

/-- SET_EDGES (R181). -/
def execSetEdges (clocked : Nat) (fields : EdgeFields) (s : State) :
    Host.Outcome State Fault Refusal :=
  s.request clocked fun s => s.replaceEdges fields

end Sys2Proof.Machine
end

