-- ==== Sys2Proof/Machine/Modes.lean ====
section
/-! DEFINITION. Machine/Modes.lean: the line sequencer (spec/09): the MODE actions, SET_LINE,
PRESS_READY_CHANGE, AUTO_HOLD_EXPIRY and FEEDER_FAULT_CHANGE. -/

namespace Sys2Proof.Machine

/-! ## MODE (R151) -/

/-- The response of MODE, for every status: mode, trip_cause and hold_cause after the event (R151). -/
def State.modeResponse (s : State) (status : Status) : Response × State :=
  ({ status := status, payload := .mode s.line.mode s.line.tripCause s.line.holdCause }, s)

/-- A MODE action that is accepted in the modes `ok` and makes the transition `act` (R151). -/
def State.modeAction (s : State) (ok : Bool) (act : State → State) : Response × State :=
  if ok then (act s).modeResponse .ok else s.modeResponse .wrongMode

/-- START, after the mode check (R152). -/
def State.start (s : State) : Response × State :=
  if s.line.mode ≠ .stopped then s.modeResponse .wrongMode
  else if s.feeder.feederLimit = 0 then s.modeResponse .notConfigured
  else if s.enabledZones.isEmpty then s.modeResponse .notConfigured
  else if s.line.faultLatch then s.modeResponse .faultLatched
  else s.enterRun.modeResponse .ok

/-- MODE_START (R152); a MODE action byte that names no action is refused with BAD_VALUE (R151). -/
def execModeStart (clocked : Nat) (unnamed : Option Nat) (s : State) :
    Host.Outcome State Fault Refusal :=
  s.request clocked fun s =>
    match unnamed with
    | some _ => s.modeResponse .badValue
    | none => s.start

/-- MODE_HOLD (R149). -/
def execModeHold (clocked : Nat) (s : State) : Host.Outcome State Fault Refusal :=
  s.request clocked fun s => s.modeAction s.line.mode.pushing fun s => s.enterHold .request

/-- MODE_RESUME (R149). -/
def execModeResume (clocked : Nat) (s : State) : Host.Outcome State Fault Refusal :=
  s.request clocked fun s =>
    s.modeAction (s.line.mode = .hold || s.line.mode = .drain) State.enterRun

/-- DRAIN: the entry, and STOPPED at once when row and exit are empty (R153). -/
def State.drainNow (s : State) : State := s.enterDrain.drainTest

/-- MODE_DRAIN (R153). -/
def execModeDrain (clocked : Nat) (s : State) : Host.Outcome State Fault Refusal :=
  s.request clocked fun s =>
    s.modeAction (s.line.mode = .run || s.line.mode = .hold) State.drainNow

/-- MODE_TRIP (R158). -/
def execModeTrip (clocked : Nat) (s : State) : Host.Outcome State Fault Refusal :=
  s.request clocked fun s => s.modeAction s.line.mode.production fun s => s.enterTripped .request

/-- CLEAR_TRIP once accepted: the latch is cleared, and the line is HOLD with a record in the row or at
the exit, else STOPPED (R159). -/
def State.leaveTrip (s : State) : State :=
  let s := { s with line := { s.line with faultLatch := false } }
  if s.lineEmpty then s.enterStopped else s.enterHold .afterTrip

/-- CLEAR_TRIP (R159). -/
def State.clearTrip (s : State) : Response × State :=
  if s.line.mode ≠ .tripped then s.modeResponse .wrongMode
  else if s.pins.feederFault then s.modeResponse .faultLatched
  else s.leaveTrip.modeResponse .ok

/-- MODE_CLEAR_TRIP (R159). -/
def execModeClearTrip (clocked : Nat) (s : State) : Host.Outcome State Fault Refusal :=
  s.request clocked State.clearTrip

/-- MODE_SERVICE (R160). -/
def execModeService (clocked : Nat) (s : State) : Host.Outcome State Fault Refusal :=
  s.request clocked fun s => s.modeAction (s.line.mode = .stopped) State.enterService

/-- LEAVE_SERVICE (R160, R122). -/
def State.leaveService (s : State) : Response × State :=
  if s.line.mode ≠ .service then s.modeResponse .wrongMode
  else if s.tuner.allState = .running then s.modeResponse .busy
  else s.enterStopped.pointLowest.modeResponse .ok

/-- MODE_LEAVE_SERVICE (R160). -/
def execModeLeaveService (clocked : Nat) (s : State) : Host.Outcome State Fault Refusal :=
  s.request clocked State.leaveService

/-! ## SET_LINE (R162, R117, R123, R124) -/

/-- The seven line parameters as they stand (R162). -/
def State.parameters (s : State) : LineParameters :=
  { feederLimit := s.feeder.feederLimit, nominalCadence := s.line.nominalCadence,
    queueLow := s.line.queueLow, tAmb := s.line.tAmb, holdDelay := s.line.holdDelay,
    transferTimeout := s.line.transferTimeout, tuningWindow := s.tuner.window }

/-- The parameters a SET_LINE would leave: each present part clamped, each absent part as it stands
(R162). -/
def newParameters (parts : Nat) (f : LineFields) (p : LineParameters) : LineParameters :=
  { feederLimit := if hasPart parts 0 then clampFeederLimit f.feederLimit else p.feederLimit
    nominalCadence := if hasPart parts 1 then clampCadence f.nominalCadence else p.nominalCadence
    queueLow := if hasPart parts 2 then min 8 f.queueLow else p.queueLow
    tAmb := if hasPart parts 3 then min 600 f.tAmb else p.tAmb
    holdDelay := if hasPart parts 4 then min 60000 f.holdDelay else p.holdDelay
    transferTimeout :=
      if hasPart parts 5 then clampTransfer f.transferTimeout else p.transferTimeout
    tuningWindow := if hasPart parts 6 then windowRounds f.tuningWindow else p.tuningWindow }

/-- A new window at or below the age of an enabled zone whose age was below the old window (R124). -/
def State.windowOvertakes (s : State) (window : Nat) : Bool :=
  s.zones.toList.any fun z =>
    z.map.enabled && z.tuningAge < s.tuner.window && window ≤ z.tuningAge

/-- The line parameters stored (R162), with the overdue test of R124. -/
def State.storeParameters (s : State) (p : LineParameters) : State :=
  { s with
    feeder := { s.feeder with feederLimit := p.feederLimit }
    tuner := { s.tuner with window := p.tuningWindow }
    line := { s.line with
      nominalCadence := p.nominalCadence, queueLow := p.queueLow, tAmb := p.tAmb,
      holdDelay := p.holdDelay, transferTimeout := p.transferTimeout }
    }.raiseIf (s.windowOvertakes p.tuningWindow) .tuneOverdue

/-- SET_LINE: an unnamed parts bit or the configuration guard refuses it whole (R162, R117). DESIGN
CHOICE (log entry 22): the refusal carries no parameters, R162 naming them right after the case OK. -/
def State.setLine (s : State) (parts : Nat) (f : LineFields) : Response × State :=
  if !linePartsNamed parts then refuse .badValue s
  else
    let p := newParameters parts f s.parameters
    if hasPart parts 0 && p.feederLimit < minimumSum s.zones then refuse .badValue s
    else accept (.parameters p) (s.storeParameters p)

/-- SET_LINE (R162). -/
def execSetLine (clocked parts : Nat) (fields : LineFields) (s : State) :
    Host.Outcome State Fault Refusal :=
  s.request clocked fun s => s.setLine parts fields

/-! ## PRESS_READY, auto-hold and FEEDER_FAULT (R155, R157) -/

/-- A change of PRESS_READY at the line sequencer (R155). -/
def State.pressReadyChanged (s : State) (active : Bool) : State :=
  if active then { s with line := { s.line with autoHold := none } }
  else if s.line.mode.pushing then s.startAutoHold
  else s

/-- PRESS_READY_CHANGE (R155). -/
def execPressReadyChange (active : Bool) (s : State) : Host.Outcome State Fault Refusal :=
  ({ s with pins := { s.pins with pressReady := active } }).event fun s =>
    s.pressReadyChanged active

/-- The expiry of a running auto-hold timer, which runs only in RUN and DRAIN (R155, R149). -/
def State.expireAutoHold (s : State) : State :=
  match s.line.autoHold with
  | none => s
  | some due => if s.line.mode.pushing then (s.reach due).enterHold .pressNotReady else s

/-- AUTO_HOLD_EXPIRY (R155). -/
def execAutoHoldExpiry (s : State) : Host.Outcome State Fault Refusal := s.event State.expireAutoHold

/-- A change of FEEDER_FAULT at the line sequencer (R157). -/
def State.feederFaultChanged (s : State) (active : Bool) : State :=
  if active then
    let s := { s with line := { s.line with faultLatch := true } }
    if s.line.mode.production then s.enterTripped .feeder else s
  else if s.line.mode.idle then { s with line := { s.line with faultLatch := false } }
  else s

/-- FEEDER_FAULT_CHANGE (R157). Through the hold of a controller restart only the level at the pin
changes; the release reads it (R163). -/
def execFeederFaultChange (active : Bool) (s : State) : Host.Outcome State Fault Refusal :=
  ({ s with pins := { s.pins with feederFault := active } }).event fun s =>
    s.feederFaultChanged active

end Sys2Proof.Machine
end

