-- ==== Sys2Proof/Machine/Recipes.lean ====
section
/-! DEFINITION. Machine/Recipes.lean: the recipe table (spec/02): WRITE_RECIPE, READ_RECIPE,
RESET_BIAS and ADAPTATION_UPDATE. -/

namespace Sys2Proof.Machine

/-- WRITE_RECIPE's checks in R31's order, and the write of R32. -/
def State.writeRecipe (s : State) (recipe validity : Nat) (fields : RecipeFields) :
    Response × State :=
  match recipeOf recipe, yesNoOf validity with
  | none, _ => refuse .badValue s
  | some _, none => refuse .badValue s
  | some k, some false =>
      if s.recipes[k].inUse then
        ({ status := .recipeInUse, payload := .userCount s.recipes[k].users }, s)
      else
        let t := s.modifyRecipe k fun e => { e with valid := false }
        accept (.recipe t.recipes[k]) t
  | some k, some true =>
      if constantsInRange fields then
        if s.recipes[k].inUse && !sameConstants fields s.recipes[k].fields then
          ({ status := .recipeInUse, payload := .userCount s.recipes[k].users }, s)
        else
          let t := s.modifyRecipe k fun e => { e with valid := true, fields := clampedFields fields }
          accept (.recipe t.recipes[k]) t
      else refuse .badValue s

/-- WRITE_RECIPE (R31, R32). -/
def execWriteRecipe (clocked recipe validity : Nat) (fields : RecipeFields) (s : State) :
    Host.Outcome State Fault Refusal :=
  s.request clocked fun s => s.writeRecipe recipe validity fields

/-- READ_RECIPE (R34). -/
def execReadRecipe (clocked recipe : Nat) (s : State) : Host.Outcome State Fault Refusal :=
  s.request clocked fun s =>
    match recipeOf recipe with
    | none => refuse .badValue s
    | some k => accept (.recipe s.recipes[k]) s

/-- The learned part set to 0 (R36). -/
def Recipe.forget (e : Recipe) : Recipe := { e with bias := 0, adaptCount := 0 }

/-- RESET_BIAS (R36): one recipe, or all of them for selection 255. -/
def State.resetBias (s : State) (selection : Nat) : Response × State :=
  if selection = allRecipes then
    accept (.biases (s.recipes.toList.map fun e => (e.bias, e.adaptCount)))
      { s with recipes := Vector.ofFn fun k => s.recipes[k].forget }
  else
    match recipeOf selection with
    | none => refuse .badValue s
    | some k =>
        accept (.biases [(s.recipes[k].bias, s.recipes[k].adaptCount)])
          (s.modifyRecipe k Recipe.forget)

/-- RESET_BIAS (R36). -/
def execResetBias (clocked selection : Nat) (s : State) : Host.Outcome State Fault Refusal :=
  s.request clocked fun s => s.resetBias selection

/-- The step an adaptation update adds to the bias, truncated toward zero (R35). -/
def adaptStep (diff : Int) (gain : Nat) : Int := (diff * gain).tdiv 1000

/-- An adaptation update at a valid recipe (R35). -/
def Recipe.adapt (diff : Int) (e : Recipe) : Recipe :=
  { e with
    bias := clampInt (-500) 500 (e.bias + adaptStep diff e.fields.adaptGain)
    adaptCount := satAdd Config.counterMax e.adaptCount 1 }

/-- The recipe table takes the oldest adaptation update; an invalid recipe discards it (R35). -/
def State.takeUpdate (s : State) : State :=
  match s.mail.updates with
  | [] => s
  | (k, diff) :: rest =>
      let s := { s with mail := { s.mail with updates := rest } }
      if s.recipes[k].valid then s.modifyRecipe k (Recipe.adapt diff) else s

/-- ADAPTATION_UPDATE (R35). -/
def execAdaptationUpdate (s : State) : Host.Outcome State Fault Refusal := s.event State.takeUpdate

end Sys2Proof.Machine
end

