-- ==== Sys2Proof/Machine/Records.lean ====
section
/-! DEFINITION. Machine/Records.lean: the requests on billet records and the entry queue (spec/01):
LOAD_BILLET, QUERY_BILLET, QUERY_POSITION, QUERY_ROW, AMEND_BILLET, WITHDRAW_BILLET and
READ_LAST_RETIRED. -/

namespace Sys2Proof.Machine

/-- The load counter after one more creation; the value after 4294967295 is 1 (R7). -/
def nextLoad (counter : Nat) : Nat := if counter = Config.word32Max then 1 else counter + 1

/-- A record as LOAD_BILLET creates it (R12). -/
def newRecord (tag loadSeq : Nat) (recipe : RecipeId) (mass initial : Nat) : BilletRecord :=
  { tag := tag, loadSeq := loadSeq, recipe := recipe, mass := mass, place := .queued,
    ts := min Config.tempMax initial, tc := min Config.tempMax initial, targetOffset := 0,
    energy := 0, rowsRounds := 0, soakRounds := 0, flags := BilletFlags.clear, measured := none,
    outcome := none }

/-- The recipe a request names, if the number is 0 to 15 and the recipe is valid (R11, check 3; R16,
check 3). -/
def State.validRecipe (s : State) (n : Nat) : Option RecipeId :=
  (recipeOf n).filter fun k => s.recipes[k].valid

/-- The creation of a record at the tail of the entry queue (R12, R29). -/
def State.createRecord (s : State) (tag : Nat) (recipe : RecipeId) (mass initial : Nat) : State :=
  let seq := nextLoad s.pool.loadCounter
  let s := { s with pool := { s.pool with
    loadCounter := seq
    records := s.pool.records ++ [newRecord tag seq recipe mass initial]
    queue := s.pool.queue ++ [tag] } }
  s.modifyRecipe recipe fun e => { e with users := e.users + 1 }

/-- LOAD_BILLET's checks in R11's order, and the creation of R12. -/
def State.load (s : State) (tag recipe mass initial : Nat) : Response × State :=
  if tag = 0 || 65535 < tag then refuse .badValue s
  else if mass < 500 || 250000 < mass then refuse .badValue s
  else
    match s.validRecipe recipe with
    | none => refuse .badValue s
    | some k =>
        if (s.lookup tag).isSome then refuse .tagInUse s
        else if 8 ≤ s.pool.queue.length then refuse .queueFull s
        else accept (.loadSeq (nextLoad s.pool.loadCounter)) (s.createRecord tag k mass initial)

/-- LOAD_BILLET (R11, R12). -/
def execLoadBillet (clocked tag recipe mass initial : Nat) (s : State) :
    Host.Outcome State Fault Refusal :=
  s.request clocked fun s => s.load tag recipe mass initial

/-- QUERY_BILLET (R14). -/
def execQueryBillet (clocked tag : Nat) (s : State) : Host.Outcome State Fault Refusal :=
  s.request clocked fun s =>
    match s.lookup tag with
    | none => refuse .noSuchTag s
    | some r => accept (.snapshot (s.snapshot r)) s

/-- QUERY_POSITION (R15). -/
def execQueryPosition (clocked position : Nat) (s : State) : Host.Outcome State Fault Refusal :=
  s.request clocked fun s =>
    if position < s.row.length then accept (.tag ((s.row.tagAt position).getD 0)) s
    else refuse .badValue s

/-- The tags QUERY_ROW returns: the row in position order, then the exit slot (R15). -/
def State.rowTags (s : State) : List Nat :=
  (s.row.positions.toList.take s.row.length).map (·.getD 0) ++ [s.exit.slot.getD 0]

/-- QUERY_ROW (R15). -/
def execQueryRow (clocked : Nat) (s : State) : Host.Outcome State Fault Refusal :=
  s.request clocked fun s => accept (.tags s.rowTags) s

/-- The target offset AMEND_BILLET writes, clamped (R3, R17). -/
def clampOffset (n : Int) : Int := clampInt (-300) 300 n

/-- R16's checks on a live record: the status of the first that fails, or the recipe part to apply. -/
def State.amendChecks (s : State) (tag parts recipe : Nat) :
    Except Status (BilletRecord × Option RecipeId) :=
  match s.lookup tag with
  | none => .error .noSuchTag
  | some r =>
      if hasPart parts 2 then
        if r.place = .queued then
          match s.validRecipe recipe with
          | none => .error .badValue
          | some k => .ok (r, some k)
        else .error .wrongPlace
      else .ok (r, none)

/-- The record after its amendment (R17). -/
def amendRecord (parts : Nat) (offset : Int) (recipe : Option RecipeId) (r : BilletRecord) :
    BilletRecord :=
  { r with
    targetOffset := if hasPart parts 0 then clampOffset offset else r.targetOffset
    flags := if hasPart parts 1 then { r.flags with marked := true } else r.flags
    recipe := recipe.getD r.recipe }

/-- The user counts when a queued record's recipe is replaced (R29). -/
def State.moveUser (s : State) (old new : RecipeId) : State :=
  if old = new then s
  else
    (s.modifyRecipe old fun e => { e with users := e.users - 1 }).modifyRecipe new fun e =>
      { e with users := e.users + 1 }

/-- MARKED added to a record at the exit is told to the exit station (R17). -/
def State.tellMark (s : State) (r : BilletRecord) : State :=
  if r.place = .exit then
    { s with mail := { s.mail with
      marks := s.mail.marks ++ [{ tag := r.tag, loadSeq := r.loadSeq }] } }
  else s

/-- The amendment of a record that has passed R16 (R17). -/
def State.applyAmend (s : State) (r : BilletRecord) (parts : Nat) (offset : Int)
    (recipe : Option RecipeId) : State :=
  let s := s.modifyRecord r.tag (amendRecord parts offset recipe)
  let s := s.moveUser r.recipe (recipe.getD r.recipe)
  if hasPart parts 1 then s.tellMark r else s

/-- AMEND_BILLET once its parts byte is known to name only its three parts (R16, R17). -/
def State.amend (s : State) (tag parts : Nat) (offset : Int) (recipe : Nat) : Response × State :=
  match s.amendChecks tag parts recipe with
  | .error status => refuse status s
  | .ok (r, k) =>
      let t := s.applyAmend r parts offset k
      accept (.snapshot (t.snapshot (amendRecord parts offset k r))) t

/-- A parts byte with an unnamed bit refuses the request with BAD_VALUE (section 11.3). Whether that
check comes before R16's is a free value (log entry 6); either way nothing changes. -/
def State.amendUnnamed (s : State) (tag parts recipe : Nat) : Response × State :=
  match Config.amendPartsFirst, s.amendChecks tag parts recipe with
  | false, .error status => refuse status s
  | _, _ => refuse .badValue s

/-- AMEND_BILLET (R16, R17). -/
def execAmendBillet (clocked tag parts : Nat) (offset : Int) (recipe : Nat) (s : State) :
    Host.Outcome State Fault Refusal :=
  s.request clocked fun s =>
    if amendPartsNamed parts then s.amend tag parts offset recipe
    else s.amendUnnamed tag parts recipe

/-- Withdrawal of a queued record: it leaves the queue and is retired (R18). -/
def State.withdraw (s : State) (tag : Nat) : Response × State :=
  match s.lookup tag with
  | none => refuse .noSuchTag s
  | some r =>
      if r.place = .queued then
        let s := { s with pool := { s.pool with
          queue := s.pool.queue.filter fun t => t != tag } }
        accept .none (s.retire tag .withdrawn)
      else refuse .wrongPlace s

/-- WITHDRAW_BILLET (R18). -/
def execWithdrawBillet (clocked tag : Nat) (s : State) : Host.Outcome State Fault Refusal :=
  s.request clocked fun s => s.withdraw tag

/-- READ_LAST_RETIRED (R20, R21). -/
def execReadLastRetired (clocked clearCounters : Nat) (s : State) :
    Host.Outcome State Fault Refusal :=
  s.request clocked fun s =>
    let data := Payload.lastRetired s.pool.lastRetired s.pool.outcomes
    match yesNoOf clearCounters with
    | none => refuse .badValue s
    | some false => accept data s
    | some true =>
        accept data { s with pool := { s.pool with outcomes := Vector.replicate 10 0 } }

end Sys2Proof.Machine
end

