-- ==== Sys2Proof/Machine/Tuning.lean ====
section
/-! DEFINITION. Machine/Tuning.lean: the tuning sequencer (spec/07): TUNE_ALL, ROUND_NOTICE and
TUNE_OUTCOME. -/

namespace Sys2Proof.Machine

/-- The sequencer sends a tune order to a zone channel. -/
def State.sendOrder (s : State) (z : ZoneId) : State :=
  { s with mail := { s.mail with orders := s.mail.orders ++ [z] } }

/-- The tune-all list at an accepted TUNE_ALL: the first entry IN_PROGRESS, the others PENDING
(R130). -/
def openList : List ZoneId → List (ZoneId × TuneResult)
  | [] => []
  | z :: rest => (z, .inProgress) :: rest.map fun y => (y, .waiting)

/-- TUNE_ALL's checks in R129's order, and the start of the pass (R130). -/
def State.startTuneAll (s : State) : Response × State :=
  if s.line.mode ≠ .service then refuse .wrongMode s
  else if s.tuner.allState = .running then refuse .busy s
  else if s.tuner.regularZone.isSome then refuse .busy s
  else
    match s.enabledZones with
    | [] => refuse .notConfigured s
    | first :: rest =>
        if (first :: rest).all fun z => s.zones[z].state = .off then
          accept (.zones (first :: rest))
            ({ s with tuner := { s.tuner with
                allState := .running, allList := openList (first :: rest) } }.sendOrder first)
        else refuse .busy s

/-- TUNE_ALL (R129). -/
def execTuneAll (clocked : Nat) (s : State) : Host.Outcome State Fault Refusal :=
  s.request clocked State.startTuneAll

/-- The conditions under which a round notice sends a regular tune order, giving the pointed zone
(R125). -/
def State.tuneDue (s : State) (m : NoticeMessage) : Option ZoneId :=
  s.tuner.pointer.filter fun z =>
    (s.line.mode = .run || s.line.mode = .hold)
      && s.tuner.regularZone.isNone && s.tuner.allState ≠ .running
      && m.grants[z] = some 0 && s.zones[z].state = .off

/-- A round notice at the sequencer (R125). -/
def State.actOnNotice (s : State) (m : NoticeMessage) : State :=
  match s.tuneDue m with
  | none => s
  | some z => { s with tuner := { s.tuner with regularZone := some z } }.sendOrder z

/-- The sequencer takes the oldest round notice. -/
def State.takeNotice (s : State) : State :=
  match s.mail.notices with
  | [] => s
  | m :: rest => { s with mail := { s.mail with notices := rest } }.actOnNotice m

/-- ROUND_NOTICE (R125). -/
def execRoundNotice (s : State) : Host.Outcome State Fault Refusal := s.event State.takeNotice

/-- The next enabled zone in ascending cyclic order after `z` (R121). -/
def State.nextPointed (s : State) (z : ZoneId) : Option ZoneId :=
  ((List.finRange 12).map fun k => z + k + 1).find? fun y => s.zones[y].map.enabled

/-- A tuning ended, succeeded or failed: the pointer advances if it still names the zone (R127). -/
def State.advancePointer (s : State) (z : ZoneId) : State :=
  if s.tuner.pointer = some z then
    { s with tuner := { s.tuner with pointer := s.nextPointed z } }
  else s

/-- The outcome of a regular tuning (R127). -/
def State.endRegular (s : State) (z : ZoneId) (o : TuneOutcome) : State :=
  let s := { s with tuner := { s.tuner with regularZone := none } }
  match o with
  | .succeeded => s.advancePointer z
  | .failed => s.advancePointer z
  | .refused => s
  | .abandoned => s

/-- The result an outcome writes for the zone in progress (R130). `abandoned` is told only by a
stop-all, which no mode change makes while a tune-all runs (log entry 9). -/
def resultOf : TuneOutcome → TuneResult
  | .succeeded => .tuned
  | .failed => .failed
  | .refused => .skipped
  | .abandoned => .abandoned

/-- The zone in progress of a tune-all list (R130). -/
def zoneInProgress (list : List (ZoneId × TuneResult)) : Option ZoneId :=
  (list.find? fun e => e.2 == .inProgress).map Prod.fst

/-- The first PENDING zone of a tune-all list (R130). -/
def firstWaiting (list : List (ZoneId × TuneResult)) : Option ZoneId :=
  (list.find? fun e => e.2 == .waiting).map Prod.fst

/-- Write a zone's result in a tune-all list; no zone stands in it twice (R130). -/
def setResult (z : ZoneId) (r : TuneResult) (list : List (ZoneId × TuneResult)) :
    List (ZoneId × TuneResult) :=
  list.map fun e => if e.1 = z then (z, r) else e

/-- The outcome of the zone in progress: its result, then the next order or the end of the pass, which
sets the pointer to the lowest enabled zone (R130). -/
def State.advanceTuneAll (s : State) (z : ZoneId) (o : TuneOutcome) : State :=
  let list := setResult z (resultOf o) s.tuner.allList
  match firstWaiting list with
  | some y =>
      { s with tuner := { s.tuner with allList := setResult y .inProgress list } }.sendOrder y
  | none => { s with tuner := { s.tuner with allList := list, allState := .done } }.pointLowest

/-- A tuning outcome at the sequencer; one that names neither the awaited regular zone nor the zone in
progress of a running tune-all is discarded (R127, R130). -/
def State.actOnOutcome (s : State) (z : ZoneId) (o : TuneOutcome) : State :=
  if s.tuner.regularZone = some z then s.endRegular z o
  else if s.tuner.allState = .running && zoneInProgress s.tuner.allList = some z then
    s.advanceTuneAll z o
  else s

/-- The sequencer takes a zone's oldest tuning outcome. -/
def State.takeOutcome (s : State) (z : ZoneId) : State :=
  match takeFirst (fun m => m.1 == z) s.mail.outcomes with
  | none => s
  | some ((_, o), rest) => { s with mail := { s.mail with outcomes := rest } }.actOnOutcome z o

/-- TUNE_OUTCOME (R127, R130). -/
def execTuneOutcome (zone : ZoneId) (s : State) : Host.Outcome State Fault Refusal :=
  s.event fun s => s.takeOutcome zone

end Sys2Proof.Machine
end

