-- ==== Sys2Proof/Machine/Restart.lean ====
section
/-! DEFINITION. Machine/Restart.lean: power-on reset and controller restart (spec/10): POWER_ON_RESET,
CTRL_RESET_ASSERTED, RESTART and RESTART_RELEASE with catch-up. -/

namespace Sys2Proof.Machine

/-! ## The entry of a controller restart (R168) -/

/-- A tune-all that the restart ends: ABANDONED and NOT_RUN (R131). -/
def endedResult : TuneResult → TuneResult
  | .waiting => .notRun
  | .inProgress => .abandoned
  | .tuned => .tuned
  | .failed => .failed
  | .skipped => .skipped
  | .abandoned => .abandoned
  | .notRun => .notRun

/-- The tuning sequencer at the entry: a RUNNING pass is ended, and its outstanding order is awaited as
a regular one (R131). -/
def Tuner.restartEntry (t : Tuner) : Tuner :=
  if t.allState = .running then
    { t with
      allState := .done
      allList := t.allList.map fun e => (e.1, endedResult e.2)
      regularZone := zoneInProgress t.allList }
  else t

/-- The row tracker at the entry (R77). -/
def RowTracker.restartEntry (row : RowTracker) : RowTracker :=
  { row with stroke := .idle, strokeTimer := none, cadenceCount := none, cadenceHistory := [] }

/-- The exit station at the entry (R147). -/
def ExitStation.restartEntry (e : ExitStation) : ExitStation :=
  { e with
    pendingTakes := 0, windowTimer := none, transferTimer := none,
    readings := if e.state = .measuring then [] else e.readings }

/-- The line link at the entry: the response buffer and every attention flag cleared (R182). -/
def LineLink.restartEntry (l : LineLink) : LineLink := { l with buffer := none, flags := 0 }

/-- The entry of a controller restart, one event in which each block does its part (R168). -/
def State.restartEntry (s : State) (cause : RestartCause) : State :=
  let t := s.enterTripped .restart
  { t with
    row := t.row.restartEntry
    exit := t.exit.restartEntry
    tuner := t.tuner.restartEntry
    link := t.link.restartEntry
    restart := { t.restart with
      hold := some
        (.restart { cause := cause, entryTime := s.clock.count, modeBefore := s.line.mode }) } }

/-- Power-on reset begins to hold the part, whatever held it before (R165, R166). -/
def State.holdPowerOn (s : State) : State :=
  { s with restart := { s.restart with hold := some .powerOn } }

/-- The release of power-on reset: every block takes its power-on values (R165); a CTRL_RESET asserted
at the release begins a controller restart at once (R166). -/
def State.releasePowerOn (s : State) (levels : Levels) : State :=
  let t := State.powerOn levels s.pending
  if levels.ctrlReset then t.restartEntry .ctrlReset else t

/-- POWER_ON_RESET (R165). -/
def execPowerOnReset (edge : PowerOnEdge) (s : State) : Host.Outcome State Fault Refusal :=
  match edge with
  | .held => .next s.holdPowerOn
  | .released levels => .next (s.releasePowerOn levels)

/-- CTRL_RESET_ASSERTED: the entry of a controller restart (R166, R168); during the hold of one it only
extends the hold. -/
def execCtrlResetAsserted (s : State) : Host.Outcome State Fault Refusal :=
  ({ s with pins := { s.pins with ctrlReset := true } }).event fun s => s.restartEntry .ctrlReset

/-- RESTART: the entry is taken in the request's own event, and it receives no response (R166). -/
def execRestart (clocked : Nat) (s : State) : Host.Outcome State Fault Refusal :=
  s.transaction clocked fun s => s.restartEntry .request

/-! ## The release (R169) and catch-up (R170) -/

/-- The recovery timers run out their remaining time after the release: each was paused for the length
of the hold (R167). -/
def ZoneChannel.resumeTimer (heldFor : Nat) (z : ZoneChannel) : ZoneChannel :=
  { z with timer := z.timer.map fun due => due + heldFor }

/-- The hold ends: the recovery timers run on, and CTRL_RESET is deasserted (R166, R167). -/
def State.endHold (s : State) (h : RestartHold) : State :=
  { s with
    zones := Vector.ofFn fun z => s.zones[z].resumeTimer (s.clock.count - h.entryTime)
    restart := { s.restart with hold := none }
    pins := { s.pins with ctrlReset := false } }

/-- A transfer in flight is retired TRANSFER_UNKNOWN, with its exit-empty notice (R147, R169). -/
def State.retireInFlight (s : State) : State :=
  if s.exit.state.transferring then s.endTransfer .transferUnknown else s

/-- The reports held from before the entry, taken in the order of their arrival (R37, R169). -/
def State.takeHeldReports (s : State) : State :=
  s.mail.reports.foldl State.absorb { s with mail := { s.mail with reports := [] } }

/-- `n` steps, one after another. -/
def repeatStep (step : BilletRecord → BilletRecord) : Nat → BilletRecord → BilletRecord
  | 0, r => r
  | n + 1, r => repeatStep step n (step r)

/-- The number of boundaries that fell due since the last one taken (R170, step 1). -/
def State.missedRounds (s : State) : Nat := (s.clock.count - s.clock.lastBoundary) / Config.roundMs

/-- STALE added when more than 3000 rounds were missed (R170, step 3). -/
def markStale (missed : Nat) (r : BilletRecord) : BilletRecord :=
  if Config.catchUpCap < missed then { r with flags := { r.flags with stale := true } } else r

/-- Catch-up of one record: STALE and n steps with E = 0 for a ROW or EXIT record (R170). -/
def State.caughtUp (s : State) (r : BilletRecord) : BilletRecord :=
  if r.place.inLine then
    repeatStep (s.stepped none 0) (min Config.catchUpCap s.missedRounds) (markStale s.missedRounds r)
  else r

/-- The step notices of catch-up: one for each step of an EXIT record (R170). -/
def State.catchUpNotices (s : State) : List RecordRef :=
  s.pool.records.flatMap fun r =>
    if r.place = .exit then
      List.replicate (min Config.catchUpCap s.missedRounds) { tag := r.tag, loadSeq := r.loadSeq }
    else []

/-- Catch-up (R170). -/
def State.catchUp (s : State) : State :=
  { s with
    pool := { s.pool with records := s.pool.records.map s.caughtUp }
    mail := { s.mail with steps := s.mail.steps ++ s.catchUpNotices } }

/-- The number of records catch-up steps (R171). -/
def State.stepsRecords (s : State) : Nat :=
  if s.missedRounds = 0 then 0 else (s.pool.records.filter fun r => r.place.inLine).length

/-- The restart record of a release at which catch-up stepped `stepped` records (R171). -/
def State.restartRecord (s : State) (h : RestartHold) (stepped : Nat) : RestartRecord :=
  { cause := h.cause, entryTime := h.entryTime, releaseTime := s.clock.count,
    modeBefore := h.modeBefore, missedRounds := min Config.word32Max s.missedRounds,
    catchupSteps := min Config.catchUpCap s.missedRounds,
    staleApplied := decide (Config.catchUpCap < s.missedRounds), recordsStepped := stepped }

/-- The heat model unit's and the exit station's parts of the release, in either order of the
retirement and the catch-up (R169), and the number of records stepped. -/
def State.releaseBillets (s : State) (retireFirst : Bool) : State × Nat :=
  let before := if retireFirst then s.retireInFlight.takeHeldReports else s.takeHeldReports
  let after := before.catchUp
  (if retireFirst then after else after.retireInFlight, before.stepsRecords)

/-- A MEASURING billet's window starts again (R147). -/
def State.restartWindow (s : State) : State :=
  if s.exit.state = .measuring then
    { s with exit := { s.exit with
        readings := [], windowTimer := some (s.clock.count + Config.windowMs) } }
  else s

/-- The blocks' parts of the release that touch no billet: RESTARTED, the fault latch, the overdue test
and the round timer (R169, R163, R124, R101). -/
def State.releaseBlocks (s : State) : State :=
  ({ s with
      line := { s.line with faultLatch := s.line.faultLatch || s.pins.feederFault }
      feeder := { s.feeder with roundStart := s.clock.count } }.raise .restarted).raiseIf
    (!s.overdueZones.isEmpty) .tuneOverdue

/-- The release of a controller restart, one event in which each block does its part (R169). -/
def State.release (s : State) (h : RestartHold) (retireFirst : Bool) : State :=
  let s := if h.cause = .request then s.reach (h.entryTime + Config.restartHoldMs) else s
  let s := (s.endHold h).releaseBlocks
  let record := s.restartRecord h
  let (s, stepped) := s.releaseBillets retireFirst
  let s := s.restartWindow
  { s with restart := { s.restart with
      count := satAdd Config.counterMax s.restart.count 1, last := some (record stepped) } }

/-- RESTART_RELEASE: the deassertion of CTRL_RESET, or the end of a RESTART request's 20 ms (R166,
R169). Without a restart in its hold there is nothing to release (log entry 3), nor is there while
power-on reset holds the part (R165). -/
def execRestartRelease (retireFirst : Bool) (s : State) : Host.Outcome State Fault Refusal :=
  match s.restart.hold with
  | none => .next s
  | some .powerOn => .next s
  | some (.restart h) => .next (s.release h retireFirst)

end Sys2Proof.Machine
end

