-- ==== Sys2Proof/Machine/Row.lean ====
section
/-! DEFINITION. Machine/Row.lean: the heating row (spec/04): SET_ROW_LENGTH, STROKE_BEGIN, STROKE_END
and STROKE_TIMER_EXPIRY. -/

namespace Sys2Proof.Machine

/-- SET_ROW_LENGTH's checks in R60's order, and the change. -/
def State.setRowLength (s : State) (value : Nat) : Response × State :=
  if !s.line.mode.idle then refuse .wrongMode s
  else if value < 4 || 40 < value then refuse .badValue s
  else if s.enabledZones.any fun z => value ≤ s.zones[z].map.lastPos then refuse .badValue s
  else accept (.rowLength value) { s with row := { s.row with length := value } }

/-- SET_ROW_LENGTH (R60). -/
def execSetRowLength (clocked value : Nat) (s : State) : Host.Outcome State Fault Refusal :=
  s.request clocked fun s => s.setRowLength value

/-- A stroke begin (R62, R70). -/
def State.beginStroke (s : State) : State :=
  match s.row.stroke with
  | .idle =>
      { s with row := { s.row with
          stroke := .moving
          strokeTimer := some (s.clock.count + Config.strokeMs)
          permitViolations :=
            if s.pushPermit then s.row.permitViolations
            else satAdd Config.counterMax s.row.permitViolations 1 } }
  | .moving =>
      { s with row := { s.row with
          fwdRepeats := satAdd Config.counterMax s.row.fwdRepeats 1 } }

/-- STROKE_BEGIN: a transition of PUSH_FWD, an edge when the input's selection counts it (R62, R181).
Through the hold of a controller restart only the level at the pin changes (R167). -/
def execStrokeBegin (t : Transition) (s : State) : Host.Outcome State Fault Refusal :=
  ({ s with pins := { s.pins with pushFwd := transitionLevel t } }).event fun s =>
    if s.link.edges.pushFwd.counts t then s.beginStroke else s

/-- The hand-off of an ejected record to the exit station: an arrival at an EMPTY station, else a
push-off of the record it holds (R67, R146). -/
def State.handOff (s : State) (tag : Nat) : State :=
  if s.exit.state = .empty then s.arrive tag
  else ((s.vacate .pushedOff).arrive tag).raise .strokeFault

/-- Each ROW record's position rises by one (R66, stage 2). -/
def Place.advance : Place → Place
  | .queued => .queued
  | .row p => .row (p + 1)
  | .exit => .exit

/-- The row array after the advance and the fill of position 0 (R66, stages 2 and 3). -/
def RowTracker.advanced (row : RowTracker) (feed : Option Nat) : Vector (Option Nat) 40 :=
  Vector.ofFn fun i =>
    if i.val = 0 then feed
    else if i.val < row.length then row.tagAt (i.val - 1)
    else none

/-- The head of the entry queue, which it supplies in RUN only (R10). -/
def State.feed (s : State) : Option Nat := if s.line.mode = .run then s.pool.queue.head? else none

/-- Advance and fill (R66, stages 2 and 3; R10). -/
def State.advanceRow (s : State) : State :=
  let feed := s.feed
  { s with
    row := { s.row with positions := s.row.advanced feed }
    pool := { s.pool with
      queue := if feed.isSome then s.pool.queue.tail else s.pool.queue
      records := s.pool.records.map fun r =>
        if feed = some r.tag then { r with place := .row 0 }
        else { r with place := r.place.advance } } }

/-- The record at the last position, which the shift ejects (R66, stage 1). -/
def RowTracker.ejected (row : RowTracker) : Option Nat := row.tagAt (row.length - 1)

/-- The shift (R66, R67). -/
def State.shift (s : State) : State :=
  ((s.row.ejected.map s.handOff).getD s).advanceRow

/-- The shift pushes a record off the exit (R67). -/
def State.pushesOff (s : State) : Bool := s.row.ejected.isSome && s.exit.state != .empty

/-- The cadence measured at a stroke end (R73). -/
def RowTracker.measureCadence (row : RowTracker) : RowTracker :=
  match row.cadenceCount with
  | some n =>
      { row with
        cadenceCount := some 0
        cadenceHistory :=
          (if row.cadenceHistory.length < 4 then row.cadenceHistory
            else row.cadenceHistory.drop 1) ++ [n] }
  | none => { row with cadenceCount := some 0 }

/-- QUEUE_LOW is tested at a stroke end in RUN (R75). -/
def State.testQueue (s : State) : State :=
  s.raiseIf (s.line.mode = .run && s.pool.queue.length < s.line.queueLow) .queueLow

/-- A stroke end, in the order of R64; a hold request after a push-off takes effect last (R67,
R156). -/
def State.endStroke (s : State) : State :=
  let pushed := s.pushesOff && s.line.mode.pushing
  let s := { s with row := { s.row with stroke := .idle, strokeTimer := none } }
  let s := s.shift
  let s := { s with row := s.row.measureCadence }
  let s := s.testQueue.drainTest
  if pushed then s.enterHold .pushOff else s

/-- A PUSH_HOME edge: a stroke end while MOVING, else an unmatched one (R63, R64). -/
def State.homeEdge (s : State) : State :=
  match s.row.stroke with
  | .moving => s.endStroke
  | .idle =>
      { s with row := { s.row with
          homeUnmatched := satAdd Config.counterMax s.row.homeUnmatched 1 } }

/-- STROKE_END: a transition of PUSH_HOME (R63, R64, R181). -/
def execStrokeEnd (t : Transition) (s : State) : Host.Outcome State Fault Refusal :=
  ({ s with pins := { s.pins with pushHome := transitionLevel t } }).event fun s =>
    if s.link.edges.pushHome.counts t then s.homeEdge else s

/-- The expiry of a running stroke timer (R65, R156). -/
def State.expireStroke (s : State) : State :=
  match s.row.strokeTimer with
  | none => s
  | some due =>
      let s := s.reach due
      let s := { s with row := { s.row with strokeTimer := none } }.raise .strokeFault
      if s.line.mode.pushing then s.enterHold .strokeTimeout else s

/-- STROKE_TIMER_EXPIRY (R65). A timer that does not run does not expire (log entry 3). -/
def execStrokeTimerExpiry (s : State) : Host.Outcome State Fault Refusal :=
  s.event State.expireStroke

end Sys2Proof.Machine
end

