-- ==== Sys2Proof/Machine/Zones.lean ====
section
/-! DEFINITION. Machine/Zones.lean: the zone channels and inverter ports (spec/05): SET_ZONE, READ_ZONE,
SET_ZONE_BAND, CLEAR_ZONE_FAULT, IDLE_CREDIT, GRANT, TUNE_ORDER, the inverter reports and the zone
timers. -/

namespace Sys2Proof.Machine

/-! ## Requests -/

/-- The map entry SET_ZONE would leave, max_kW clamped (R79, R80). -/
def zoneEntry (f : ZoneFields) (level : Level) (enabled : Bool) : ZoneMap :=
  { firstPos := f.firstPos, lastPos := f.lastPos, maxKW := clampMaxKW f.maxKW, minKW := f.minKW,
    level := level, enabled := enabled }

/-- The choices and numbers of R79's check 3: zone, level, enabled and band. -/
def zoneChoices (zone : Nat) (f : ZoneFields) : Option (ZoneId × Level × Bool × Band) :=
  match zoneOf zone, levelOf f.level, yesNoOf f.enabled, bandOf f.band with
  | some z, some l, some e, some b => some (z, l, e, b)
  | _, _, _, _ => none

/-- Two position ranges share a position (R79, check 8). -/
def ZoneMap.overlaps (a b : ZoneMap) : Bool := a.firstPos ≤ b.lastPos && b.firstPos ≤ a.lastPos

/-- Checks 5 to 9 of R79 on the entry the request would leave at zone `z`. -/
def State.entryAllowed (s : State) (z : ZoneId) (m : ZoneMap) : Bool :=
  (m.firstPos ≤ m.lastPos && m.lastPos ≤ 39)
    && (5 ≤ m.minKW && m.minKW ≤ m.maxKW)
    && (!m.enabled || m.lastPos < s.row.length)
    && (!m.enabled || (List.finRange 12).all fun y =>
          y = z || !s.zones[y].map.enabled || !m.overlaps s.zones[y].map)
    && (s.feeder.feederLimit = 0
        || minimumSum (s.zones.set z { s.zones[z] with map := m }) ≤ s.feeder.feederLimit)

/-- The next enabled zone in ascending cyclic order after `z` (R121). -/
def State.nextEnabled (s : State) (z : ZoneId) : Option ZoneId :=
  ((List.finRange 12).map fun k => z + k + 1).find? fun y => s.zones[y].map.enabled

/-- The tuning pointer placed again after an accepted SET_ZONE (R122). -/
def State.placePointer (s : State) : State :=
  match s.tuner.pointer with
  | none => s.pointLowest
  | some z =>
      if s.zones[z].map.enabled then s
      else { s with tuner := { s.tuner with pointer := s.nextEnabled z } }

/-- An accepted SET_ZONE (R80): the entry, the band in force and no pending band; the overdue test of
R124 and the pointer placement of R122. -/
def State.writeZone (s : State) (z : ZoneId) (m : ZoneMap) (band : Band) : State :=
  let was := s.zones[z].map.enabled
  let s := s.modifyZone z fun c => { c with map := m, band := band, pendingBand := none }
  (s.raiseIf (!was && s.zones[z].overdue s.tuner.window) .tuneOverdue).placePointer

/-- SET_ZONE's checks in R79's order, and the write. -/
def State.setZoneMap (s : State) (zone : Nat) (f : ZoneFields) : Response × State :=
  if !s.line.mode.idle then refuse .wrongMode s
  else if s.tuner.allState = .running then refuse .busy s
  else
    match zoneChoices zone f with
    | none => refuse .badValue s
    | some (z, level, enabled, band) =>
        let m := zoneEntry f level enabled
        if s.zones[z].state ≠ .off ∧ s.zones[z].state ≠ .faulted then refuse .busy s
        else if s.entryAllowed z m then
          let t := s.writeZone z m band
          accept (.zone (t.zoneView z)) t
        else refuse .badValue s

/-- SET_ZONE (R79, R80, R118). -/
def execSetZone (clocked zone : Nat) (fields : ZoneFields) (s : State) :
    Host.Outcome State Fault Refusal :=
  s.request clocked fun s => s.setZoneMap zone fields

/-- READ_ZONE (R100). -/
def execReadZone (clocked zone : Nat) (s : State) : Host.Outcome State Fault Refusal :=
  s.request clocked fun s =>
    match zoneOf zone with
    | none => refuse .badValue s
    | some z => accept (.zone (s.zoneView z)) s

/-- A channel's answer to a band request (R97). -/
def ZoneChannel.requestBand (b : Band) (z : ZoneChannel) : ZoneChannel :=
  if b = z.band then { z with pendingBand := none }
  else if z.state = .off then { z with band := b, pendingBand := none }
  else { z with pendingBand := some b }

/-- SET_ZONE_BAND (R97). -/
def execSetZoneBand (clocked zone band : Nat) (s : State) : Host.Outcome State Fault Refusal :=
  s.request clocked fun s =>
    match zoneOf zone, bandOf band with
    | some z, some b =>
        let t := s.modifyZone z (ZoneChannel.requestBand b)
        accept (.zone (t.zoneView z)) t
    | some _, none => refuse .badValue s
    | none, _ => refuse .badValue s

/-- CLEAR_ZONE_FAULT (R90). -/
def execClearZoneFault (clocked zone : Nat) (s : State) : Host.Outcome State Fault Refusal :=
  s.request clocked fun s =>
    match zoneOf zone with
    | none => refuse .badValue s
    | some z =>
        if s.zones[z].state = .faulted then
          if s.zones[z].lastReport = some .fault then
            ({ status := .faultLatched, payload := .zone (s.zoneView z) }, s)
          else
            let t := s.enterStopping z
            accept (.zone (t.zoneView z)) t
        else accept (.zone (s.zoneView z)) s

/-! ## Messages -/

/-- The zone channel takes its oldest idle credit (R96). -/
def State.takeCredit (s : State) (z : ZoneId) : State :=
  match takeFirst (fun m => m.1 == z) s.mail.credits with
  | none => s
  | some ((_, joules), rest) =>
      { s with mail := { s.mail with credits := rest } }.modifyZone z fun c =>
        { c with idleEnergy := satAdd Config.energyMax c.idleEnergy joules }

/-- IDLE_CREDIT (R96). -/
def execIdleCredit (zone : ZoneId) (s : State) : Host.Outcome State Fault Refusal :=
  s.event fun s => s.takeCredit zone

/-- A start (R84). -/
def State.startZone (s : State) (z : ZoneId) (kW : Nat) : State :=
  (s.modifyZone z fun c =>
    { c with
      grantInForce := kW, meteredGrant := kW, state := .starting,
      timer := some (s.clock.count + Config.startMs),
      starts := satAdd Config.counterMax c.starts 1 }).send z (.run kW s.zones[z].band)

/-- A discarded grant is counted (R91, R99). -/
def State.discardGrant (s : State) (z : ZoneId) : State :=
  s.modifyZone z fun c =>
    { c with grantsDiscarded := satAdd Config.counterMax c.grantsDiscarded 1 }

/-- A grant taken in the state the zone stands in (R91). -/
def State.actOnGrant (s : State) (z : ZoneId) (kW : Nat) : State :=
  match s.zones[z].state with
  | .off => if kW = 0 then s else s.startZone z kW
  | .starting =>
      if kW = 0 then s.enterStopping z
      else s.modifyZone z fun c => { c with nextGrant := some kW }
  | .on =>
      if kW = 0 then s.enterStopping z
      else s.modifyZone z fun c => { c with nextGrant := some kW }
  | .stopping => s.discardGrant z
  | .tuning => s.discardGrant z
  | .faulted => s.discardGrant z

/-- The zone channel takes its oldest grant. -/
def State.takeGrant (s : State) (z : ZoneId) : State :=
  match takeFirst (fun m => m.1 == z) s.mail.grants with
  | none => s
  | some ((_, kW), rest) => { s with mail := { s.mail with grants := rest } }.actOnGrant z kW

/-- GRANT (R91). -/
def execGrant (zone : ZoneId) (s : State) : Host.Outcome State Fault Refusal :=
  s.event fun s => s.takeGrant zone

/-- A tune order at the zone channel: taken when the zone is enabled and OFF, else refused (R87). -/
def State.actOnOrder (s : State) (z : ZoneId) : State :=
  if s.zones[z].map.enabled && s.zones[z].state = .off then
    (s.modifyZone z fun c =>
      { c with state := .tuning, timer := some (s.clock.count + Config.tuneMs) }).send z
      (.tune s.zones[z].band)
  else s.tellTuner z .refused

/-- The zone channel takes its oldest tune order. -/
def State.takeOrder (s : State) (z : ZoneId) : State :=
  match takeFirst (fun y => y == z) s.mail.orders with
  | none => s
  | some (_, rest) => { s with mail := { s.mail with orders := rest } }.actOnOrder z

/-- TUNE_ORDER (R87). -/
def execTuneOrder (zone : ZoneId) (s : State) : Host.Outcome State Fault Refusal :=
  s.event fun s => s.takeOrder zone

/-! ## Inverter reports (R82, R85, R88, R89) -/

/-- The kind of every report received is written, acted on or not (R82). -/
def State.noteReport (s : State) (z : ZoneId) (k : ReportKind) : State :=
  s.modifyZone z fun c => { c with lastReport := some k }

/-- A stray report is counted (R82). -/
def State.strayAt (s : State) (z : ZoneId) : State :=
  s.modifyZone z fun c => { c with strayReports := satAdd Config.counterMax c.strayReports 1 }

/-- RUNNING in STARTING: the zone is ON (R85). -/
def State.turnOn (s : State) (z : ZoneId) : State :=
  s.modifyZone z fun c =>
    { c with state := .on, timer := none, onSince := some s.clock.count, meteredBand := c.band }

/-- INVERTER_RUNNING (R85). -/
def execInverterRunning (zone : ZoneId) (s : State) : Host.Outcome State Fault Refusal :=
  s.event fun s =>
    let s := s.noteReport zone .running
    if s.zones[zone].state = .starting then s.turnOn zone else s.strayAt zone

/-- TUNED in TUNING: the efficiency is judged (R88). -/
def State.judgeTuned (s : State) (z : ZoneId) (efficiency : Nat) : State :=
  if 500 ≤ efficiency && efficiency ≤ 980 then
    (s.modifyZone z fun c => { c.toOff with eff := efficiency, tuningAge := 0 }).tellTuner z .succeeded
  else s.enterFaulted z .tuneRange

/-- INVERTER_TUNED (R88). -/
def execInverterTuned (zone : ZoneId) (efficiency : Nat) (s : State) :
    Host.Outcome State Fault Refusal :=
  s.event fun s =>
    let s := s.noteReport zone .tuned
    if s.zones[zone].state = .tuning then s.judgeTuned zone efficiency else s.strayAt zone

/-- INVERTER_FAULT (R89). -/
def execInverterFault (zone : ZoneId) (code : Nat) (s : State) : Host.Outcome State Fault Refusal :=
  s.event fun s =>
    let s := s.noteReport zone .fault
    let s := s.modifyZone zone fun c => { c with inverterCode := some code }
    s.enterFaulted zone .inverter

/-- INVERTER_HEALTHY (R82). -/
def execInverterHealthy (zone : ZoneId) (s : State) : Host.Outcome State Fault Refusal :=
  s.event fun s => s.noteReport zone .healthy

/-- STRAY_REPORT: a message the port cannot read as a whole (R82). -/
def execStrayReport (zone : ZoneId) (s : State) : Host.Outcome State Fault Refusal :=
  s.event fun s => s.strayAt zone

/-! ## Zone timers (R83, R85, R86, R88) -/

/-- The expiry of the timer a zone runs in a given state, at its due time; a timer that does not run
does not expire (log entry 3). -/
def State.expireZone (s : State) (z : ZoneId) (runsIn : ZoneState) (act : State → State) : State :=
  match s.zones[z].timer with
  | none => s
  | some due => if s.zones[z].state = runsIn then act (s.reach due) else s

/-- START_TIMEOUT (R85). -/
def execStartTimeout (zone : ZoneId) (s : State) : Host.Outcome State Fault Refusal :=
  s.event fun s => s.expireZone zone .starting fun s => s.enterFaulted zone .startTimeout

/-- RECOVERY_EXPIRY (R86, R97). -/
def execRecoveryExpiry (zone : ZoneId) (s : State) : Host.Outcome State Fault Refusal :=
  s.event fun s => s.expireZone zone .stopping fun s => s.modifyZone zone ZoneChannel.toOff

/-- TUNE_TIMEOUT (R88). -/
def execTuneTimeout (zone : ZoneId) (s : State) : Host.Outcome State Fault Refusal :=
  s.event fun s => s.expireZone zone .tuning fun s => s.enterFaulted zone .tuneTimeout

end Sys2Proof.Machine
end

