-- ==== Sys2Proof/Machine/Dispatch.lean ====
section
/-! DEFINITION. Machine/Dispatch.lean: one arm for each command. -/

namespace Sys2Proof.Machine

/-- The effect of a command on everything but the queue of waiting commands. -/
def exec (i : Instr) (s : State) : Host.Outcome State Fault Refusal :=
  match i with
  | .powerOnReset edge => Sys2Proof.Machine.execPowerOnReset edge s
  | .ctrlResetAsserted => Sys2Proof.Machine.execCtrlResetAsserted s
  | .restartRelease retireFirst => Sys2Proof.Machine.execRestartRelease retireFirst s
  | .frameError check clocked => Sys2Proof.Machine.execFrameError check clocked s
  | .nop clocked => Sys2Proof.Machine.execNop clocked s
  | .readStatus clocked => Sys2Proof.Machine.execReadStatus clocked s
  | .loadBillet clocked tag recipe mass initial => Sys2Proof.Machine.execLoadBillet clocked tag recipe mass initial s
  | .queryBillet clocked tag => Sys2Proof.Machine.execQueryBillet clocked tag s
  | .queryPosition clocked position => Sys2Proof.Machine.execQueryPosition clocked position s
  | .queryRow clocked => Sys2Proof.Machine.execQueryRow clocked s
  | .amendBillet clocked tag parts offset recipe => Sys2Proof.Machine.execAmendBillet clocked tag parts offset recipe s
  | .withdrawBillet clocked tag => Sys2Proof.Machine.execWithdrawBillet clocked tag s
  | .readLastRetired clocked clearCounters => Sys2Proof.Machine.execReadLastRetired clocked clearCounters s
  | .writeRecipe clocked recipe validity fields => Sys2Proof.Machine.execWriteRecipe clocked recipe validity fields s
  | .readRecipe clocked recipe => Sys2Proof.Machine.execReadRecipe clocked recipe s
  | .resetBias clocked selection => Sys2Proof.Machine.execResetBias clocked selection s
  | .setZone clocked zone fields => Sys2Proof.Machine.execSetZone clocked zone fields s
  | .readZone clocked zone => Sys2Proof.Machine.execReadZone clocked zone s
  | .setZoneBand clocked zone band => Sys2Proof.Machine.execSetZoneBand clocked zone band s
  | .clearZoneFault clocked zone => Sys2Proof.Machine.execClearZoneFault clocked zone s
  | .setRowLength clocked value => Sys2Proof.Machine.execSetRowLength clocked value s
  | .setLine clocked parts fields => Sys2Proof.Machine.execSetLine clocked parts fields s
  | .readLine clocked => Sys2Proof.Machine.execReadLine clocked s
  | .modeStart clocked unnamed => Sys2Proof.Machine.execModeStart clocked unnamed s
  | .modeHold clocked => Sys2Proof.Machine.execModeHold clocked s
  | .modeResume clocked => Sys2Proof.Machine.execModeResume clocked s
  | .modeDrain clocked => Sys2Proof.Machine.execModeDrain clocked s
  | .modeTrip clocked => Sys2Proof.Machine.execModeTrip clocked s
  | .modeClearTrip clocked => Sys2Proof.Machine.execModeClearTrip clocked s
  | .modeService clocked => Sys2Proof.Machine.execModeService clocked s
  | .modeLeaveService clocked => Sys2Proof.Machine.execModeLeaveService clocked s
  | .tuneAll clocked => Sys2Proof.Machine.execTuneAll clocked s
  | .ackAttention clocked flagSet => Sys2Proof.Machine.execAckAttention clocked flagSet s
  | .setMasks clocked maskSet => Sys2Proof.Machine.execSetMasks clocked maskSet s
  | .setEdges clocked fields => Sys2Proof.Machine.execSetEdges clocked fields s
  | .restart clocked => Sys2Proof.Machine.execRestart clocked s
  | .strokeBegin t => Sys2Proof.Machine.execStrokeBegin t s
  | .strokeEnd t => Sys2Proof.Machine.execStrokeEnd t s
  | .strokeTimerExpiry => Sys2Proof.Machine.execStrokeTimerExpiry s
  | .takeEdge t => Sys2Proof.Machine.execTakeEdge t s
  | .pressDoneEdge t => Sys2Proof.Machine.execPressDoneEdge t s
  | .chuteDoneEdge t => Sys2Proof.Machine.execChuteDoneEdge t s
  | .transferTimerExpiry => Sys2Proof.Machine.execTransferTimerExpiry s
  | .pressReadyChange active => Sys2Proof.Machine.execPressReadyChange active s
  | .autoHoldExpiry => Sys2Proof.Machine.execAutoHoldExpiry s
  | .feederFaultChange active => Sys2Proof.Machine.execFeederFaultChange active s
  | .pyrometerReading value valid => Sys2Proof.Machine.execPyrometerReading value valid s
  | .measurementWindowExpiry => Sys2Proof.Machine.execMeasurementWindowExpiry s
  | .stepNotice => Sys2Proof.Machine.execStepNotice s
  | .markNotice => Sys2Proof.Machine.execMarkNotice s
  | .adaptationUpdate => Sys2Proof.Machine.execAdaptationUpdate s
  | .roundBoundary => Sys2Proof.Machine.execRoundBoundary s
  | .energyReport zone => Sys2Proof.Machine.execEnergyReport zone s
  | .unheatedReport => Sys2Proof.Machine.execUnheatedReport s
  | .idleCredit zone => Sys2Proof.Machine.execIdleCredit zone s
  | .demandReport zone => Sys2Proof.Machine.execDemandReport zone s
  | .grant zone => Sys2Proof.Machine.execGrant zone s
  | .roundNotice => Sys2Proof.Machine.execRoundNotice s
  | .tuneOrder zone => Sys2Proof.Machine.execTuneOrder zone s
  | .tuneOutcome zone => Sys2Proof.Machine.execTuneOutcome zone s
  | .inverterRunning zone => Sys2Proof.Machine.execInverterRunning zone s
  | .inverterTuned zone efficiency => Sys2Proof.Machine.execInverterTuned zone efficiency s
  | .inverterFault zone code => Sys2Proof.Machine.execInverterFault zone code s
  | .inverterHealthy zone => Sys2Proof.Machine.execInverterHealthy zone s
  | .strayReport zone => Sys2Proof.Machine.execStrayReport zone s
  | .startTimeout zone => Sys2Proof.Machine.execStartTimeout zone s
  | .recoveryExpiry zone => Sys2Proof.Machine.execRecoveryExpiry zone s
  | .tuneTimeout zone => Sys2Proof.Machine.execTuneTimeout zone s

end Sys2Proof.Machine
end

