-- ==== Sys2Proof/Machine/Idle.lean ====
section
/-! DEFINITION. Machine/Idle.lean: what a step does when no command waits (log entry 4): the part runs
on by itself. It takes one event that is due inside it (a message between blocks, a timer, the round
boundary, the end of a RESTART request's hold), and when none is due one millisecond passes (none while power-on reset holds the part). The order
among events due together is this model's choice; a waiting command chooses any other. -/

namespace Sys2Proof.Machine

/-- The command that takes a report of the heat model unit's input list. -/
def reportCommand (r : Report) : Instr :=
  match r.source with
  | .zone z _ _ => .energyReport z
  | .unheated => .unheatedReport

/-- The command that takes the first message found waiting. -/
def Mail.next (m : Mail) : Option Instr :=
  [m.reports.head?.map reportCommand,
   m.credits.head?.map fun c => .idleCredit c.1,
   m.updates.head?.map fun _ => .adaptationUpdate,
   m.demands.head?.map fun d => .demandReport d.zone,
   m.grants.head?.map fun g => .grant g.1,
   m.notices.head?.map fun _ => .roundNotice,
   m.orders.head?.map .tuneOrder,
   m.outcomes.head?.map fun o => .tuneOutcome o.1,
   m.steps.head?.map fun _ => .stepNotice,
   m.marks.head?.map fun _ => .markNotice].findSome? id

/-- A timer has come due. -/
def timerDue (now : Nat) (timer : Option Nat) : Bool := timer.any fun due => due ≤ now

/-- The expiry a zone's timer makes by the state it runs in (R83). -/
def zoneExpiry (z : ZoneId) : ZoneState → Option Instr
  | .off => none
  | .starting => some (.startTimeout z)
  | .on => none
  | .stopping => some (.recoveryExpiry z)
  | .tuning => some (.tuneTimeout z)
  | .faulted => none

/-- The first zone timer that has come due. -/
def State.dueZoneTimer (s : State) : Option Instr :=
  (List.finRange 12).findSome? fun z =>
    if timerDue s.clock.count s.zones[z].timer then zoneExpiry z s.zones[z].state else none

/-- The first timer of the line that has come due, the round timer last. -/
def State.dueTimer (s : State) : Option Instr :=
  let now := s.clock.count
  [if timerDue now s.row.strokeTimer then some .strokeTimerExpiry else none,
   if timerDue now s.exit.windowTimer && s.exit.state = .measuring then
     some .measurementWindowExpiry else none,
   if timerDue now s.exit.transferTimer && s.exit.state.transferring then
     some .transferTimerExpiry else none,
   if timerDue now s.line.autoHold && s.line.mode.pushing then some .autoHoldExpiry else none,
   s.dueZoneTimer,
   if s.feeder.roundStart + Config.roundMs ≤ now then some .roundBoundary else none].findSome? id

/-- The event due inside the part: outside a hold a message or a timer; in the hold of a RESTART request
whose 20 ms have passed, with CTRL_RESET deasserted, the release (R166); none while power-on reset holds
the part (R165). -/
def State.dueEvent (s : State) : Option Instr :=
  match s.restart.hold with
  | some .powerOn => none
  | some (.restart h) =>
      if !s.pins.ctrlReset && h.entryTime + Config.restartHoldMs ≤ s.clock.count then
        some (.restartRelease true)
      else none
  | none => [s.mail.next, s.dueTimer].findSome? id

/-- A step with no command waiting. Time counts from the release of power-on reset (R164), so none
counts while it holds the part. -/
def State.runOn (s : State) : Host.Outcome State Fault Refusal :=
  match s.dueEvent with
  | some i => exec i s
  | none => .next (if s.restart.hold = some .powerOn then s else s.elapse 1)

end Sys2Proof.Machine
end

