-- ==== Sys2Proof/Safety.lean ====
section
/-! DEFINITION. Safety.lean: the vocabulary of the claims: what a request leaves at the line link, which
blocks an event leaves alone, the laws the manual states of every state, and what a safe run is. No
command of the block ends in a fault or a refusal, so a run is safe when every state of it keeps the
laws. -/

namespace Sys2Proof.Machine

/-! ## Frames -/

/-- The blocks of the state. -/
inductive Block where
  | pending
  | clock
  | pool
  | recipes
  | row
  | zones
  | feeder
  | tuner
  | exit
  | line
  | link
  | restart
  | mail
  | pins
  | sent
deriving DecidableEq, Repr

/-- A block stands in `t` as in `s`. -/
def Block.Same (s t : State) : Block → Prop
  | .pending => t.pending = s.pending
  | .clock => t.clock = s.clock
  | .pool => t.pool = s.pool
  | .recipes => t.recipes = s.recipes
  | .row => t.row = s.row
  | .zones => t.zones = s.zones
  | .feeder => t.feeder = s.feeder
  | .tuner => t.tuner = s.tuner
  | .exit => t.exit = s.exit
  | .line => t.line = s.line
  | .link => t.link = s.link
  | .restart => t.restart = s.restart
  | .mail => t.mail = s.mail
  | .pins => t.pins = s.pins
  | .sent => t.sent = s.sent

/-- Every block but the named ones stands in `t` as in `s`. -/
def UnchangedBut (changed : List Block) (s t : State) : Prop :=
  ∀ b : Block, b ∉ changed → b.Same s t

/-- Every zone channel but `z` stands in `t` as in `s`. -/
def OtherZonesKept (z : ZoneId) (s t : State) : Prop :=
  ∀ y : ZoneId, y ≠ z → t.zones[y] = s.zones[y]

/-- Every recipe but `k` stands in `t` as in `s`. -/
def OtherRecipesKept (k : RecipeId) (s t : State) : Prop :=
  ∀ j : RecipeId, j ≠ k → t.recipes[j] = s.recipes[j]

/-- Stop-all has been taken (R98): every STARTING, ON or TUNING zone is STOPPING with STOP sent, every
other keeps its state, no channel has a grant or an on_since, and the sequencer is told of each tuning
abandoned. -/
def StopAllTaken (s t : State) : Prop :=
  let stops : ZoneId → Bool := fun z =>
    decide (s.zones[z].state = .starting ∨ s.zones[z].state = .on ∨ s.zones[z].state = .tuning)
  (∀ z : ZoneId, t.zones[z] = { s.zones[z] with
    state := if stops z then .stopping else s.zones[z].state
    timer := if stops z then some (s.clock.count + 600) else s.zones[z].timer
    grantInForce := 0, nextGrant := none, onSince := none }) ∧
  t.sent = s.sent ++ ((List.finRange 12).filter stops).map (fun z => (z, InverterCommand.stop)) ∧
  t.mail = { s.mail with
    outcomes := s.mail.outcomes ++
      ((List.finRange 12).filter fun z => decide (s.zones[z].state = .tuning)).map fun z =>
        (z, TuneOutcome.abandoned) }

/-- No row position holds a record and the exit station is EMPTY (R153, R154, R159). -/
def State.Cleared (s : State) : Prop :=
  (∀ p : Fin 40, s.row.positions[p] = none) ∧ s.exit.state = .empty

/-! ## The line link after a transaction (R175) -/

/-- A response stands in the buffer whose last byte a transaction of `clocked` bytes does not reach. -/
def LineLink.leavesUnfetched (l : LineLink) (clocked : Nat) : Bool :=
  l.buffer.any fun r => clocked < r.frame.length

/-- The line link after a transaction that puts the response `r` into the buffer (R175). -/
def LineLink.answered (l : LineLink) (clocked : Nat) (r : Response) : LineLink :=
  { l with
    buffer := some r
    lastShift := some { response := l.buffer, clocked := clocked }
    responsesLost :=
      if l.leavesUnfetched clocked then satAdd Config.counterMax l.responsesLost 1
      else l.responsesLost }

/-- The state after a request that changes nothing but its response. -/
def State.answered (s : State) (clocked : Nat) (r : Response) : State :=
  { s with link := s.link.answered clocked r }

/-- A transaction that is taken: it carried a byte, and no restart is in its hold. -/
def State.Taking (s : State) (clocked : Nat) : Prop := 0 < clocked ∧ s.restart.hold = none

/-! ## Commands one after another, and commands that are transactions -/

/-- The complete bytes of the transaction that a command is, and `none` for a command that is none
(R172). -/
def transactionBytes : Instr → Option Nat
  | .powerOnReset _ => none
  | .ctrlResetAsserted => none
  | .restartRelease _ => none
  | .frameError _ clocked => some clocked
  | .nop clocked => some clocked
  | .readStatus clocked => some clocked
  | .loadBillet clocked _ _ _ _ => some clocked
  | .queryBillet clocked _ => some clocked
  | .queryPosition clocked _ => some clocked
  | .queryRow clocked => some clocked
  | .amendBillet clocked _ _ _ _ => some clocked
  | .withdrawBillet clocked _ => some clocked
  | .readLastRetired clocked _ => some clocked
  | .writeRecipe clocked _ _ _ => some clocked
  | .readRecipe clocked _ => some clocked
  | .resetBias clocked _ => some clocked
  | .setZone clocked _ _ => some clocked
  | .readZone clocked _ => some clocked
  | .setZoneBand clocked _ _ => some clocked
  | .clearZoneFault clocked _ => some clocked
  | .setRowLength clocked _ => some clocked
  | .setLine clocked _ _ => some clocked
  | .readLine clocked => some clocked
  | .modeStart clocked _ => some clocked
  | .modeHold clocked => some clocked
  | .modeResume clocked => some clocked
  | .modeDrain clocked => some clocked
  | .modeTrip clocked => some clocked
  | .modeClearTrip clocked => some clocked
  | .modeService clocked => some clocked
  | .modeLeaveService clocked => some clocked
  | .tuneAll clocked => some clocked
  | .ackAttention clocked _ => some clocked
  | .setMasks clocked _ => some clocked
  | .setEdges clocked _ => some clocked
  | .restart clocked => some clocked
  | .strokeBegin _ => none
  | .strokeEnd _ => none
  | .strokeTimerExpiry => none
  | .takeEdge _ => none
  | .pressDoneEdge _ => none
  | .chuteDoneEdge _ => none
  | .transferTimerExpiry => none
  | .pressReadyChange _ => none
  | .autoHoldExpiry => none
  | .feederFaultChange _ => none
  | .pyrometerReading _ _ => none
  | .measurementWindowExpiry => none
  | .stepNotice => none
  | .markNotice => none
  | .adaptationUpdate => none
  | .roundBoundary => none
  | .energyReport _ => none
  | .unheatedReport => none
  | .idleCredit _ => none
  | .demandReport _ => none
  | .grant _ => none
  | .roundNotice => none
  | .tuneOrder _ => none
  | .tuneOutcome _ => none
  | .inverterRunning _ => none
  | .inverterTuned _ _ => none
  | .inverterFault _ _ => none
  | .inverterHealthy _ => none
  | .strayReport _ => none
  | .startTimeout _ => none
  | .recoveryExpiry _ => none
  | .tuneTimeout _ => none

/-- The state after commands taken one after another; it stays where one gives no next state. -/
def State.afterAll (s : State) (commands : List Instr) : State :=
  commands.foldl (fun x i =>
    match exec i x with
    | .next t => t
    | .fault _ => x
    | .refused _ => x) s

/-! ## The laws of every state -/

/-- Ts and Tc lie in 0 to 16000, and target_offset in −300 to +300 (R3). -/
def TempsBounded (s : State) : Prop :=
  ∀ r ∈ s.pool.records,
    r.ts ≤ 16000 ∧ r.tc ≤ 16000 ∧ -300 ≤ r.targetOffset ∧ r.targetOffset ≤ 300

/-- No two live records carry the same tag (R7), and tags are 1 to 65535 (R1). -/
def TagsDistinct (s : State) : Prop :=
  (s.pool.records.map BilletRecord.tag).Nodup ∧
    ∀ r ∈ s.pool.records, 1 ≤ r.tag ∧ r.tag ≤ 65535

/-- The number of live records that name a recipe. -/
def State.recordsNaming (s : State) (k : RecipeId) : Nat :=
  (s.pool.records.filter fun r => r.recipe == k).length

/-- Each recipe's user count is the number of live records that name it (R29). -/
def UsersCounted (s : State) : Prop := ∀ k : RecipeId, s.recipes[k].users = s.recordsNaming k

/-- A recipe in use stays valid (section 2.3, R30). -/
def InUseValid (s : State) : Prop := ∀ k : RecipeId, 0 < s.recipes[k].users → s.recipes[k].valid = true

/-- Every bias lies in −500 to +500 (R28). -/
def BiasBounded (s : State) : Prop :=
  ∀ k : RecipeId, -500 ≤ s.recipes[k].bias ∧ s.recipes[k].bias ≤ 500

/-- The sum of the enabled minimums never exceeds a configured feeder limit (R118). -/
def GuardKept (s : State) : Prop :=
  s.feeder.feederLimit = 0 ∨ minimumSum s.zones ≤ s.feeder.feederLimit

/-- A zone map entry lies in its ranges (R78). -/
def ZoneMap.InRange (m : ZoneMap) : Prop :=
  m.firstPos ≤ m.lastPos ∧ m.lastPos ≤ 39 ∧ 5 ≤ m.minKW ∧ m.minKW ≤ m.maxKW ∧ 10 ≤ m.maxKW ∧
    m.maxKW ≤ 1500

/-- The zone map is legal: every entry lies in its ranges, every enabled zone lies within the row, and
no two enabled zones share a position (R78, R60). -/
def MapsLegal (s : State) : Prop :=
  (∀ z : ZoneId, s.zones[z].map.InRange) ∧
    (∀ z : ZoneId, s.zones[z].map.enabled = true → s.zones[z].map.lastPos < s.row.length) ∧
    ∀ y z : ZoneId, y ≠ z → s.zones[y].map.enabled = true → s.zones[z].map.enabled = true →
      s.zones[y].map.lastPos < s.zones[z].map.firstPos ∨
        s.zones[z].map.lastPos < s.zones[y].map.firstPos

/-- The seven line parameters lie in their ranges (R162). -/
def ParametersInRange (s : State) : Prop :=
  (s.feeder.feederLimit = 0 ∨ 50 ≤ s.feeder.feederLimit ∧ s.feeder.feederLimit ≤ 6000) ∧
    1 ≤ s.line.nominalCadence ∧ s.line.nominalCadence ≤ 3000 ∧ s.line.queueLow ≤ 8 ∧
    s.line.tAmb ≤ 600 ∧ s.line.holdDelay ≤ 60000 ∧ 1000 ≤ s.line.transferTimeout ∧
    s.line.transferTimeout ≤ 10000 ∧ 300 ≤ s.tuner.window ∧ s.tuner.window ≤ 18000

/-- The states in which a zone's timer runs (R83). -/
def ZoneState.timed : ZoneState → Bool
  | .off => false
  | .starting => true
  | .on => false
  | .stopping => true
  | .tuning => true
  | .faulted => false

/-- A zone channel's fields fit its state: on_since is present exactly in ON, a timer runs exactly in
STARTING, STOPPING and TUNING, a grant is in force or waits only in STARTING and ON, and no band waits
in OFF (R83, R86, R89, R97). -/
def ZoneChannel.Fits (z : ZoneChannel) : Prop :=
  (z.onSince.isSome = true ↔ z.state = .on) ∧ (z.timer.isSome = z.state.timed) ∧
    (z.state.running = false → z.grantInForce = 0 ∧ z.nextGrant = none) ∧
    (z.state = .off → z.pendingBand = none)

/-- Every zone channel's fields fit its state (R83). -/
def ZonesFit (s : State) : Prop := ∀ z : ZoneId, s.zones[z].Fits

/-- The meter counts at most 20 quanta (R93), and an efficiency lies in 500 to 980 (R95). -/
def MetersBounded (s : State) : Prop :=
  ∀ z : ZoneId, s.zones[z].qOn ≤ 20 ∧ 500 ≤ s.zones[z].eff ∧ s.zones[z].eff ≤ 980

/-- The start history is kept to four entries, none later than now, any two at least 400 ms apart
(R111, R112). -/
def StartsPaced (s : State) : Prop :=
  s.feeder.startHistory.length ≤ 4 ∧ (∀ t ∈ s.feeder.startHistory, t ≤ s.clock.count) ∧
    s.feeder.startHistory.Pairwise (fun a b => a + 400 ≤ b) ∧ s.clock.count ≤ Config.timeMax

/-- The exit station's fields fit its state (R132): EMPTY exactly when the slot holds no record,
wait_rounds present exactly in READY, each timer only in its states, at most two takes pending. -/
def StationFits (s : State) : Prop :=
  (s.exit.slot = none ↔ s.exit.state = .empty) ∧
    (s.exit.waitRounds.isSome = true ↔ s.exit.state = .ready) ∧
    (s.exit.windowTimer.isSome = true → s.exit.state = .measuring) ∧
    (s.exit.transferTimer.isSome = true → s.exit.state.transferring = true) ∧
    s.exit.pendingTakes ≤ 2

/-- In STOPPED and SERVICE, no row position and no exit slot holds a record (R149). -/
def IdleLineEmpty (s : State) : Prop :=
  s.line.mode.idle = true → s.row.occupied = false ∧ s.exit.slot = none

/-- Each live record is in exactly one of the entry queue, one row position and the exit slot, and its
place names which; every reference is to a live record; positions beyond the row hold gaps (R7, R9,
R59, R132). -/
def PlacesAgree (s : State) : Prop :=
  (∀ r ∈ s.pool.records,
    (r.place = .queued ↔ r.tag ∈ s.pool.queue) ∧
      (∀ p, r.place = .row p ↔ s.row.tagAt p = some r.tag) ∧
      (r.place = .exit ↔ s.exit.slot = some r.tag)) ∧
    (∀ tag ∈ s.pool.queue, ∃ r ∈ s.pool.records, r.tag = tag) ∧
    (∀ p tag, s.row.tagAt p = some tag → ∃ r ∈ s.pool.records, r.tag = tag) ∧
    (∀ tag, s.exit.slot = some tag → ∃ r ∈ s.pool.records, r.tag = tag) ∧
    s.pool.queue.Nodup ∧ s.pool.queue.length ≤ 8 ∧
    4 ≤ s.row.length ∧ s.row.length ≤ 40 ∧
    ∀ p, s.row.length ≤ p → s.row.tagAt p = none

/-- The billets' bookkeeping: records, references and places agree (R7, R9, R59, R132, R149). -/
def BilletsTracked (s : State) : Prop :=
  TagsDistinct s ∧ StationFits s ∧ IdleLineEmpty s ∧ PlacesAgree s

/-- The recipe table's bookkeeping: user counts agree with the live records, and a recipe in use is
valid (R7, R29, R30). -/
def RecipesTracked (s : State) : Prop := TagsDistinct s ∧ UsersCounted s ∧ InUseValid s

/-- The zone map's laws: a legal map whose enabled minimums fit the feeder limit (R78, R118). -/
def MapKept (s : State) : Prop := MapsLegal s ∧ GuardKept s

/-- Every stored quantity with a stated range lies in it: temperatures and offsets (R3), biases (R28),
meters and efficiencies (R93, R95), line parameters (R162). -/
def RangesKept (s : State) : Prop :=
  TempsBounded s ∧ BiasBounded s ∧ MetersBounded s ∧ ParametersInRange s

/-- A state that keeps every law above. -/
def Lawful (s : State) : Prop :=
  BilletsTracked s ∧ RecipesTracked s ∧ MapKept s ∧ RangesKept s ∧ ZonesFit s ∧ StartsPaced s

/-- A safe run: `n` steps end in a next state, and it is lawful. -/
def SafeRun (n : Nat) (s : State) : Prop :=
  ∃ t : State, Host.Core.run ⟨State, Fault, Refusal, step, State.reset⟩ n s = .next t ∧ Lawful t

end Sys2Proof.Machine
end

