-- ==== Sys2Proof/Certificates/Slice0/Obligations.lean ====
section
/-! DEFINITION. Obligations.lean: the statements for the provers. Each docstring names the rules of
spec/ it rests on; `s.Taking c` says that a transaction of `c` bytes is taken (it carried a byte and
no restart is in its hold), and `s.answered c r` is the state a request leaves that changes nothing but
its response. -/

open Sys2Proof Sys2Proof.Machine

/-! ## The step and the commands as a whole -/

/-- A step with a command waiting runs exactly the command at the front of the queue, with the queue's
rest. -/
def Obligations.StepRunsTheFrontCommand : Prop :=
  ∀ (i : Instr) (rest : List Instr) (s : State), s.pending = i :: rest →
    step s = exec i { s with pending := rest }

/-- Every command of the table answers a next state from every state, and none touches the queue. -/
def Obligations.EveryCommandCompletes : Prop :=
  ∀ (i : Instr) (s : State), ∃ t : State, exec i s = .next t ∧ t.pending = s.pending

/-- R167, R182, R165: while a controller restart or power-on reset holds the part, it takes no
event. A transition of an edge input, a change of a level input or a further assertion of CTRL_RESET
changes the level at its own pin and nothing else; a transaction of at least one byte shifts out the
empty response, its request being lost; and every other command changes nothing. That the levels are
followed and the empty response is shifted out while power-on reset holds the part too is log entry
14. -/
def Obligations.HoldTakesNoEvent : Prop :=
  ∀ (i : Instr) (s : State), s.restart.hold.isSome = true →
    (∀ edge, i ≠ .powerOnReset edge) → (∀ first, i ≠ .restartRelease first) →
    exec i s = .next (
      match i with
      | .strokeBegin e => { s with pins := { s.pins with pushFwd := decide (e = .rising) } }
      | .strokeEnd e => { s with pins := { s.pins with pushHome := decide (e = .rising) } }
      | .takeEdge e => { s with pins := { s.pins with take := decide (e = .rising) } }
      | .pressDoneEdge e => { s with pins := { s.pins with pressDone := decide (e = .rising) } }
      | .chuteDoneEdge e => { s with pins := { s.pins with chuteDone := decide (e = .rising) } }
      | .pressReadyChange active => { s with pins := { s.pins with pressReady := active } }
      | .feederFaultChange active => { s with pins := { s.pins with feederFault := active } }
      | .ctrlResetAsserted => { s with pins := { s.pins with ctrlReset := true } }
      | other =>
          match transactionBytes other with
          | none => s
          | some 0 => s
          | some (k + 1) => { s with link := { s.link with
              lastShift := some { response := none, clocked := k + 1 } } })

/-! ## The line link (spec/11) -/

/-- Section 11.3, section 11.8 and R174: the frame of every request, with every operand at every value
the wire admits, is decoded as that request. That a MODE request with an unnamed action byte is the
row MODE_START's command is log entry 8, and that a transaction is one command, made at its end, is
log entry 13. -/
def Obligations.RequestFramesDecodeBack : Prop :=
  ∀ (i : Instr) (bytes : List Byte), wellFormed i = true → encodeRequest i = some bytes →
    decodeTransaction bytes = some i

/-- R173: the frame checks in their order. A failing frame gives its status without payload, raises
its counter, sets LINK_ERROR, and changes nothing outside the line link; a frame that fails no check
makes the command of a request. The catalogue's codes 0 to 24 and their payload lengths are written
out. -/
def Obligations.FrameChecksInOrder : Prop :=
  ∀ (bytes : List Byte) (s : State), s.Taking bytes.length →
    let code := (bytes.getD 0 0).toNat
    let n := (bytes.getD 1 0).toNat
    let lengths := [0, 0, 9, 2, 1, 0, 6, 2, 1, 54, 1, 1, 13, 1, 2, 1, 1, 15, 0, 1, 0, 2, 2, 5, 0]
    let failed : Status → LineLink := fun status =>
      { s.link.answered bytes.length { status := status, payload := .none } with
        flags := s.link.flags ||| 512 }
    ∃ i : Instr, decodeTransaction bytes = some i ∧
      if bytes.length < 3 ∨ 60 < n ∨ bytes.length < n + 3 then
        exec i s = .next { s with
          link := { failed .badLength with lengthErrors := min 65535 (s.link.lengthErrors + 1) } }
      else if bytes.getD (n + 2) 0 ≠ crc8 (bytes.take (n + 2)) then
        exec i s = .next { s with
          link := { failed .linkCrc with crcErrors := min 65535 (s.link.crcErrors + 1) } }
      else if 24 < code then
        exec i s = .next { s with
          link := { failed .unknownRequest with
            unknownRequests := min 65535 (s.link.unknownRequests + 1) } }
      else if lengths[code]? ≠ some n then
        exec i s = .next { s with
          link := { failed .badLength with lengthErrors := min 65535 (s.link.lengthErrors + 1) } }
      else ∀ (check : FrameCheck) (clocked : Nat), i ≠ .frameError check clocked

/-- R175, R172: a transaction shifts out the buffered response (or the empty one), then zeros; a NOP
then leaves the buffer empty when every byte of the response went out and leaves it as it was
otherwise, and changes nothing else. R174 and section 11.8: the CRC-8 byte by byte; the response
frame with its status code, its two length bytes and a payload of at most 1024 bytes; and the 33
bytes of the billet snapshot, field by field, or of 0 for an absent last-retired snapshot. That this
snapshot opens READ_LAST_RETIRED's payload, before the bytes of the ten counters, is the model's
choice (log entry 5), and the bytes of every other payload are free values (log entry 5). -/
def Obligations.NopFetchesTheResponse : Prop :=
  (∀ (s : State) (c : Nat), s.Taking c →
    exec (.nop c) s = .next { s with link := { s.link with
      lastShift := some { response := s.link.buffer, clocked := c }
      buffer :=
        match s.link.buffer with
        | none => none
        | some r => if r.frame.length ≤ c then none else some r } }) ∧
  (∀ o : ShiftOut, o.bytes.length = o.clocked ∧
    ∀ k : Nat, k < o.clocked → o.bytes.getD k 0 =
      match o.response with
      | none => 0
      | some r => r.frame.getD k 0) ∧
  (crc8 [] = 0 ∧ ∀ (before : List Byte) (b : Byte), crc8 (before ++ [b]) =
    (fun c : Byte => if c.msb then (c <<< 1) ^^^ 7 else c <<< 1)^[8] (crc8 before ^^^ b)) ∧
  (∀ r : Response, r.payload.bytes.length ≤ 1024 ∧
    ∃ code : Nat,
      [(Status.ok, 1), (.linkCrc, 2), (.badLength, 3), (.unknownRequest, 4), (.wrongMode, 5),
        (.wrongPlace, 6), (.noSuchTag, 7), (.tagInUse, 9), (.queueFull, 10), (.badValue, 12),
        (.recipeInUse, 13), (.busy, 14), (.notConfigured, 15), (.faultLatched, 16)].lookup r.status
          = some code ∧
      let body := [BitVec.ofNat 8 code, BitVec.ofNat 8 (r.payload.bytes.length / 256),
        BitVec.ofNat 8 r.payload.bytes.length] ++ r.payload.bytes
      r.frame = body ++ [crc8 body]) ∧
  (Payload.bytes .none = [] ∧ (∀ snap : Snapshot, Payload.bytes (.snapshot snap) = snap.bytes) ∧
    ∀ (last : Option BilletRecord) (outcomes : Vector Nat 10),
      (Payload.bytes (.lastRetired last outcomes)).take 33 =
        match last with
        | none => List.replicate 33 0
        | some r => Snapshot.bytes { record := r, queueIndex := none }) ∧
  ∀ snap : Snapshot,
    let r := snap.record
    let field : Nat → Nat → Nat := fun start n =>
      ((snap.bytes.drop start).take n).foldl (fun value b => value * 256 + b.toNat) 0
    let position : Option Nat :=
      match r.place with
      | .queued => none
      | .row p => some p
      | .exit => none
    let presence := (if position = none then 0 else 1) + (if snap.queueIndex = none then 0 else 2) +
      (if r.measured = none then 0 else 4) + (if r.outcome = none then 0 else 8)
    let outcomes : List BilletOutcome := [.forged, .rejectedCold, .rejectedHot, .rejectedFlagged,
      .rejectedCooled, .noReading, .transferLost, .transferUnknown, .pushedOff, .withdrawn]
    snap.bytes.length = 33 ∧ field 0 2 = r.tag % 65536 ∧ field 2 4 = r.loadSeq % 4294967296 ∧
      field 6 1 = r.recipe.val ∧ field 7 4 = r.mass % 4294967296 ∧
      field 11 1 = (match r.place with | .queued => 0 | .row _ => 1 | .exit => 2) ∧
      field 12 1 = presence ∧ field 13 1 = position.getD 0 % 256 ∧
      field 14 1 = snap.queueIndex.getD 0 % 256 ∧ field 15 2 = r.ts % 65536 ∧
      field 17 2 = r.tc % 65536 ∧ (field 19 2 : Int) = r.targetOffset % 65536 ∧
      field 21 1 = (if r.flags.marked then 1 else 0) + (if r.flags.overheat then 2 else 0) +
        (if r.flags.soakExceeded then 4 else 0) + (if r.flags.stale then 8 else 0) ∧
      field 22 4 = r.energy % 4294967296 ∧ field 26 2 = r.rowsRounds % 65536 ∧
      field 28 2 = r.soakRounds % 65536 ∧ field 30 2 = r.measured.getD 0 % 65536 ∧
      field 32 1 = (match r.outcome with | none => 0 | some o => outcomes.idxOf o + 1)

/-- R176 and R177: READ_STATUS and READ_LINE answer OK with the quantities the rules list, as they
stand, and change nothing else. The overdue set is R123's, the current cadence R74's, ATTENTION
R178's; and before the first arbitration the settlement record is reported with round_time 0 and
every zone entry absent (R116), its other quantities being free values (log entry 23). -/
def Obligations.StatusReadsShowTheState : Prop :=
  ∀ (s : State) (c : Nat), s.Taking c →
    exec (.readStatus c) s = .next (s.answered c ⟨.ok, .status
      { mode := s.line.mode, flags := s.link.flags, masks := s.link.masks,
        attention := decide (∃ k : Fin 10,
          s.link.flags.getLsbD k.val = true ∧ s.link.masks.getLsbD k.val = false),
        liveRecords := s.pool.records.length, queueLength := s.pool.queue.length,
        timeCount := s.clock.count, restartCount := s.restart.count,
        lengthErrors := s.link.lengthErrors, crcErrors := s.link.crcErrors,
        unknownRequests := s.link.unknownRequests, responsesLost := s.link.responsesLost }⟩) ∧
    ∃ unsettled : Settlement, unsettled.roundTime = 0 ∧ (∀ z : ZoneId, unsettled.zones[z] = none) ∧
    exec (.readLine c) s = .next (s.answered c ⟨.ok, .line
      { mode := s.line.mode, tripCause := s.line.tripCause, holdCause := s.line.holdCause,
        faultLatch := s.line.faultLatch, autoHold := s.line.autoHold,
        parameters :=
          { feederLimit := s.feeder.feederLimit, nominalCadence := s.line.nominalCadence,
            queueLow := s.line.queueLow, tAmb := s.line.tAmb, holdDelay := s.line.holdDelay,
            transferTimeout := s.line.transferTimeout, tuningWindow := s.tuner.window },
        rowLength := s.row.length, stroke := s.row.stroke, fwdRepeats := s.row.fwdRepeats,
        homeUnmatched := s.row.homeUnmatched, permitViolations := s.row.permitViolations,
        cadenceCount := s.row.cadenceCount, cadenceHistory := s.row.cadenceHistory,
        cadence :=
          if s.row.cadenceHistory.length < 4 then s.line.nominalCadence
          else max 1 (min 3000 (s.row.cadenceHistory.sum / 4)),
        collection := s.feeder.collection, pointers := s.feeder.pointers,
        startHistory := s.feeder.startHistory, deferredStarts := s.feeder.deferredStarts,
        unsettledRounds := s.feeder.unsettledRounds, settlement := s.feeder.settlement.getD unsettled,
        tuningPointer := s.tuner.pointer,
        overdue := (List.finRange 12).filter fun z =>
          s.zones[z].map.enabled && decide (s.tuner.window ≤ s.zones[z].tuningAge),
        regularZone := s.tuner.regularZone, tuneAllState := s.tuner.allState,
        tuneAllList := s.tuner.allList, station := s.exit.state, exitTag := s.exit.slot,
        pendingTakes := s.exit.pendingTakes, readingsInvalid := s.exit.readingsInvalid,
        readingsDiscarded := s.exit.readingsDiscarded, takeOverflows := s.exit.takeOverflows,
        strayPressDone := s.exit.strayPressDone, strayChuteDone := s.exit.strayChuteDone,
        timeCount := s.clock.count, lastBoundary := s.clock.lastBoundary,
        restartCount := s.restart.count, lastRestart := s.restart.last }⟩)

/-- R179, R180, R181, R161: ACK_ATTENTION clears the flags it names and no other; SET_MASKS replaces
the mask set; SET_EDGES replaces the five selections, in STOPPED and SERVICE only; a set or a
selection that names nothing is refused with BAD_VALUE and changes nothing; and the selections count
the transitions of R181's table. That these refusals carry no data is log entry 22. -/
def Obligations.LinkRegistersWritten : Prop :=
  (∀ (s : State) (c w : Nat), s.Taking c →
    (w < 1024 →
      (∃ after : BitVec 10,
        (∀ k : Nat, k < 10 → after.getLsbD k = (s.link.flags.getLsbD k && !w.testBit k)) ∧
        exec (.ackAttention c w) s = .next { s with
          link := { s.link.answered c { status := .ok, payload := .flags s.link.flags after } with
            flags := after } }) ∧
      ∃ masks : BitVec 10, (∀ k : Nat, k < 10 → masks.getLsbD k = w.testBit k) ∧
        exec (.setMasks c w) s = .next { s with
          link := { s.link.answered c { status := .ok, payload := .masks masks s.link.flags } with
            masks := masks } }) ∧
    (1024 ≤ w →
      exec (.ackAttention c w) s =
        .next (s.answered c { status := .badValue, payload := .none }) ∧
      exec (.setMasks c w) s =
        .next (s.answered c { status := .badValue, payload := .none }))) ∧
  (∀ (s : State) (c : Nat) (f : EdgeFields), s.Taking c →
    let names : List EdgeSelection := [.none, .rising, .falling, .both]
    if s.line.mode ≠ .stopped ∧ s.line.mode ≠ .service then
      exec (.setEdges c f) s = .next (s.answered c { status := .wrongMode, payload := .none })
    else if 3 < f.pushFwd ∨ 3 < f.pushHome ∨ 3 < f.take ∨ 3 < f.pressDone ∨ 3 < f.chuteDone then
      exec (.setEdges c f) s = .next (s.answered c { status := .badValue, payload := .none })
    else
      ∃ e : EdgeSelections, names[f.pushFwd]? = some e.pushFwd ∧
        names[f.pushHome]? = some e.pushHome ∧ names[f.take]? = some e.take ∧
        names[f.pressDone]? = some e.pressDone ∧ names[f.chuteDone]? = some e.chuteDone ∧
        exec (.setEdges c f) s = .next { s with
          link := { s.link.answered c ⟨.ok, .edges e s.pins.pushFwd
            s.pins.pushHome s.pins.take s.pins.pressDone s.pins.chuteDone⟩ with edges := e } }) ∧
  ∀ (e : EdgeSelection) (t : Transition),
    e.counts t = true ↔ e = .both ∨ e = .rising ∧ t = .rising ∨ e = .falling ∧ t = .falling

/-! ## Billet records and the entry queue (spec/01) -/

/-- R14 and R15: QUERY_BILLET returns the record that carries the tag, with its queue index while
QUEUED, or NO_SUCH_TAG; QUERY_POSITION the tag in a position of the row, 0 for a gap, BAD_VALUE
beyond it; QUERY_ROW the tags of the row in order and then the exit slot's. None changes anything
else. That a refused QUERY_POSITION carries no data is log entry 22. -/
def Obligations.LookupsAnswer : Prop :=
  ∀ (s : State) (c : Nat), s.Taking c → TagsDistinct s → s.row.length ≤ 40 →
    (∀ r ∈ s.pool.records,
      exec (.queryBillet c r.tag) s = .next (s.answered c ⟨.ok, .snapshot
        { record := r,
          queueIndex :=
            if r.place = .queued then s.pool.queue.findIdx? fun tag => tag == r.tag else none }⟩)) ∧
    (∀ tag : Nat, (∀ r ∈ s.pool.records, r.tag ≠ tag) →
      exec (.queryBillet c tag) s =
        .next (s.answered c { status := .noSuchTag, payload := .none })) ∧
    (∀ p : Nat, exec (.queryPosition c p) s = .next (s.answered c
      (if p < s.row.length then { status := .ok, payload := .tag ((s.row.tagAt p).getD 0) }
        else { status := .badValue, payload := .none }))) ∧
    exec (.queryRow c) s = .next (s.answered c ⟨.ok, .tags
      (((List.range s.row.length).map fun p => (s.row.tagAt p).getD 0) ++ [s.exit.slot.getD 0])⟩)

/-- R11 and R12: LOAD_BILLET's checks in their order, each refusal changing nothing but the response;
and the record, the load counter, the queue and the recipe's user count (R29) of an accepted one.
That a refusal carries no data is log entry 22. -/
def Obligations.LoadBilletCreatesOrRefuses : Prop :=
  ∀ (s : State) (c tag recipe mass initial : Nat), s.Taking c →
    let refused : Status → Prop := fun status =>
      exec (.loadBillet c tag recipe mass initial) s =
        .next (s.answered c { status := status, payload := .none })
    if tag < 1 ∨ 65535 < tag then refused .badValue
    else if mass < 500 ∨ 250000 < mass then refused .badValue
    else if ¬ ∃ k : RecipeId, k.val = recipe ∧ s.recipes[k].valid = true then refused .badValue
    else if ∃ r ∈ s.pool.records, r.tag = tag then refused .tagInUse
    else if 8 ≤ s.pool.queue.length then refused .queueFull
    else
      ∃ (k : RecipeId) (seq : Nat), k.val = recipe ∧
        seq = (if s.pool.loadCounter = 4294967295 then 1 else s.pool.loadCounter + 1) ∧
        exec (.loadBillet c tag recipe mass initial) s = .next { s with
          pool := { s.pool with
            loadCounter := seq
            records := s.pool.records ++
              [{ tag := tag, loadSeq := seq, recipe := k, mass := mass, place := .queued,
                 ts := min 16000 initial, tc := min 16000 initial, targetOffset := 0, energy := 0,
                 rowsRounds := 0, soakRounds := 0,
                 flags := { marked := false, overheat := false, soakExceeded := false,
                            stale := false },
                 measured := none, outcome := none }]
            queue := s.pool.queue ++ [tag] }
          recipes := s.recipes.set k { s.recipes[k] with users := s.recipes[k].users + 1 }
          link := s.link.answered c { status := .ok, payload := .loadSeq seq } }

/-- R16 and R17 (with R29): AMEND_BILLET's checks in their order, and the record, the user counts
and the mark notice of an accepted one. Section 11.3: a parts byte above 7 is refused with BAD_VALUE
where R16's checks pass; where one of them fails too, which of the two gives the status is open (log
entry 6). That these refusals carry no data is log entry 22. -/
def Obligations.AmendBilletAppliesOrRefuses : Prop :=
  ∀ (s : State) (c tag parts : Nat) (offset : Int) (recipe : Nat), s.Taking c → TagsDistinct s →
    let refused : Status → Prop := fun status =>
      exec (.amendBillet c tag parts offset recipe) s =
        .next (s.answered c { status := status, payload := .none })
    (8 ≤ parts → (∀ r ∈ s.pool.records, r.tag ≠ tag) → refused .badValue ∨ refused .noSuchTag) ∧
    (8 ≤ parts → ∀ r ∈ s.pool.records, r.tag = tag →
      if parts.testBit 2 = true ∧ r.place ≠ .queued then refused .badValue ∨ refused .wrongPlace
      else refused .badValue) ∧
    (parts < 8 → (∀ r ∈ s.pool.records, r.tag ≠ tag) → refused .noSuchTag) ∧
    ∀ r ∈ s.pool.records, r.tag = tag → parts < 8 →
      (parts.testBit 2 = true → r.place ≠ .queued → refused .wrongPlace) ∧
      (parts.testBit 2 = true → r.place = .queued →
        (∀ k : RecipeId, k.val = recipe → s.recipes[k].valid = false) → refused .badValue) ∧
      ∀ new : RecipeId,
        (parts.testBit 2 = true → r.place = .queued ∧ new.val = recipe ∧ s.recipes[new].valid = true) →
        (parts.testBit 2 = false → new = r.recipe) →
        ∃ (r' : BilletRecord) (t : State),
          r' = { r with
            targetOffset :=
              if parts.testBit 0 then max (-300) (min 300 offset) else r.targetOffset
            flags := { r.flags with marked := r.flags.marked || parts.testBit 1 }
            recipe := new } ∧
          exec (.amendBillet c tag parts offset recipe) s = .next t ∧
          t.pool = { s.pool with
            records := s.pool.records.map fun x => if x.tag = tag then r' else x } ∧
          (∀ k : RecipeId, t.recipes[k] = { s.recipes[k] with
            users :=
              if r.recipe = new then s.recipes[k].users
              else if k = r.recipe then s.recipes[k].users - 1
              else if k = new then s.recipes[k].users + 1
              else s.recipes[k].users }) ∧
          t.mail = { s.mail with
            marks := s.mail.marks ++
              if parts.testBit 1 = true ∧ r.place = .exit then
                [{ tag := tag, loadSeq := r.loadSeq }] else [] } ∧
          t.link = s.link.answered c ⟨.ok, .snapshot
            { record := r',
              queueIndex :=
                if r.place = .queued then s.pool.queue.findIdx? fun x => x == tag else none }⟩ ∧
          UnchangedBut [.pool, .recipes, .mail, .link] s t

/-- R18 and R19 (with R29): WITHDRAW_BILLET takes a QUEUED record out of the queue and retires it
WITHDRAWN: the last-retired copy, the outcome's counter, the freed record, RETIRED; it refuses a
record in another place, and a tag no live record carries. That a refusal carries no data is log
entry 22. -/
def Obligations.WithdrawRetiresQueuedRecords : Prop :=
  ∀ (s : State) (c tag : Nat), s.Taking c → TagsDistinct s →
    ((∀ r ∈ s.pool.records, r.tag ≠ tag) →
      exec (.withdrawBillet c tag) s =
        .next (s.answered c { status := .noSuchTag, payload := .none })) ∧
    ∀ r ∈ s.pool.records, r.tag = tag →
      if r.place = .queued then
        exec (.withdrawBillet c tag) s = .next { s with
          pool := { s.pool with
            records := s.pool.records.filter fun x => x.tag != tag
            queue := s.pool.queue.filter fun x => x != tag
            lastRetired := some { r with outcome := some .withdrawn }
            outcomes := s.pool.outcomes.set 9 (min 65535 (s.pool.outcomes[9] + 1)) }
          recipes := s.recipes.set r.recipe
            { s.recipes[r.recipe] with users := s.recipes[r.recipe].users - 1 }
          link := { s.link.answered c { status := .ok, payload := .none } with
            flags := s.link.flags ||| 1 } }
      else
        exec (.withdrawBillet c tag) s =
          .next (s.answered c { status := .wrongPlace, payload := .none })

/-- R34, R100 and R21: READ_RECIPE and READ_ZONE return the entry and the zone's data as they stand
and refuse a number that names none; READ_LAST_RETIRED returns the last-retired snapshot and the ten
counters, clears the counters when asked to, and refuses any other choice. Nothing else changes.
That a refused READ_LAST_RETIRED carries no data is log entry 22. -/
def Obligations.EntriesReadAsTheyStand : Prop :=
  ∀ (s : State) (c n : Nat), s.Taking c →
    let answers : Instr → Response → Prop := fun i r => exec i s = .next (s.answered c r)
    let retired : Response :=
      { status := .ok, payload := .lastRetired s.pool.lastRetired s.pool.outcomes }
    (∀ k : RecipeId, k.val = n →
      answers (.readRecipe c n) { status := .ok, payload := .recipe s.recipes[k] }) ∧
    (16 ≤ n → answers (.readRecipe c n) { status := .badValue, payload := .none }) ∧
    (∀ z : ZoneId, z.val = n →
      let zone := s.zones[z]
      answers (.readZone c n) ⟨.ok, .zone
        { map := zone.map, band := zone.band, pendingBand := zone.pendingBand, state := zone.state,
          grantInForce := zone.grantInForce, nextGrant := zone.nextGrant,
          onTime :=
            if zone.state = .on then zone.onSince.map fun since => s.clock.count - since else none,
          eff := zone.eff,
          effUsed :=
            if zone.tuningAge < s.tuner.window then zone.eff else zone.eff * 875 / 1000,
          tuningAge := zone.tuningAge, lastReport := zone.lastReport,
          faultCause := zone.faultCause, inverterCode := zone.inverterCode, starts := zone.starts,
          faults := zone.faults, grantsDiscarded := zone.grantsDiscarded,
          strayReports := zone.strayReports, idleEnergy := zone.idleEnergy }⟩) ∧
    (12 ≤ n → answers (.readZone c n) { status := .badValue, payload := .none }) ∧
    (n = 0 → answers (.readLastRetired c n) retired) ∧
    (n = 1 → exec (.readLastRetired c n) s = .next { s with
      pool := { s.pool with outcomes := Vector.replicate 10 0 }
      link := s.link.answered c retired }) ∧
    (2 ≤ n → answers (.readLastRetired c n) { status := .badValue, payload := .none })

/-- R1, R2: a command keeps the tag, the load number and the mass of every record that stays
live, an EXIT record stays EXIT, and only LOAD_BILLET makes a record live. -/
def Obligations.RecordsKeepTheirIdentity : Prop :=
  ∀ (i : Instr) (s t : State), BilletsTracked s → exec i s = .next t →
    (∀ c tag recipe mass initial, i ≠ .loadBillet c tag recipe mass initial) →
    ∀ r' ∈ t.pool.records, ∃ r ∈ s.pool.records,
      r'.tag = r.tag ∧ r'.loadSeq = r.loadSeq ∧ r'.mass = r.mass ∧
        (r.place = .exit → r'.place = .exit) ∧ (r'.recipe ≠ r.recipe → r.place = .queued)

/-! ## Recipes (spec/02) -/

/-- R31 and R32: WRITE_RECIPE's checks in their order, each refusal changing no recipe; and the
entry an accepted write leaves, its editable fields clamped into the ranges of section 2.2. -/
def Obligations.WriteRecipeAppliesOrRefuses : Prop :=
  ∀ (s : State) (c recipe validity : Nat) (f : RecipeFields), s.Taking c →
    let answers : Response → Prop := fun r =>
      exec (.writeRecipe c recipe validity f) s = .next (s.answered c r)
    let stores : RecipeId → Recipe → Prop := fun k e =>
      exec (.writeRecipe c recipe validity f) s = .next { s with
        recipes := s.recipes.set k e
        link := s.link.answered c { status := .ok, payload := .recipe e } }
    (16 ≤ recipe → answers { status := .badValue, payload := .none }) ∧
    ∀ k : RecipeId, k.val = recipe →
      let old := s.recipes[k]
      if 1 < validity then answers { status := .badValue, payload := .none }
      else if validity = 0 then
        if 0 < old.users then answers { status := .recipeInUse, payload := .userCount old.users }
        else stores k { old with valid := false }
      else if f.cp < 200 ∨ 2000 < f.cp ∨ f.sLow < 500 ∨ 1000 < f.sLow ∨ f.sHigh < 500 ∨
          1000 < f.sHigh ∨ 500 < f.equalization ∨ 100 < f.loss then
        answers { status := .badValue, payload := .none }
      else if 0 < old.users ∧ ¬ (f.cp = old.fields.cp ∧ f.sLow = old.fields.sLow ∧
          f.sHigh = old.fields.sHigh ∧ f.equalization = old.fields.equalization ∧
          f.loss = old.fields.loss) then
        answers { status := .recipeInUse, payload := .userCount old.users }
      else stores k { old with
        valid := true
        fields := { f with
          zoneTarget := f.zoneTarget.map fun target => min 16000 target
          holdTemp := min 16000 f.holdTemp, exitTarget := min 16000 f.exitTarget
          tolLow := min 1000 f.tolLow, tolHigh := min 1000 f.tolHigh
          tsMax := min 16000 f.tsMax, gradMax := min 5000 f.gradMax
          adaptGain := min 500 f.adaptGain } }

/-- R36 and R35: RESET_BIAS sets the bias and the adaptation count of one recipe, or of all for
selection 255, to 0, returns the previous values, and refuses any other selection; an adaptation
update adds its step, truncated toward zero, to the bias of a valid recipe, clamped, and counts it,
and an invalid recipe discards it. Which message of the channel is taken, the oldest, is the model's
choice (log entry 1), and that a refused RESET_BIAS carries no data is log entry 22. -/
def Obligations.LearnedPartMovesAndResets : Prop :=
  (∀ (s : State) (c n : Nat), s.Taking c →
    (∀ k : RecipeId, k.val = n → exec (.resetBias c n) s = .next { s with
      recipes := s.recipes.set k { s.recipes[k] with bias := 0, adaptCount := 0 }
      link := s.link.answered c
        { status := .ok, payload := .biases [(s.recipes[k].bias, s.recipes[k].adaptCount)] } }) ∧
    (n = 255 → exec (.resetBias c n) s = .next { s with
      recipes := s.recipes.map fun e => { e with bias := 0, adaptCount := 0 }
      link := s.link.answered c ⟨.ok, .biases
        ((List.finRange 16).map fun k => (s.recipes[k].bias, s.recipes[k].adaptCount))⟩ }) ∧
    (16 ≤ n → n ≠ 255 → exec (.resetBias c n) s =
      .next (s.answered c { status := .badValue, payload := .none }))) ∧
  ∀ (s : State) (k : RecipeId) (diff : Int) (rest : List (RecipeId × Int)),
    s.restart.hold = none → s.mail.updates = (k, diff) :: rest →
    exec .adaptationUpdate s = .next { s with
      mail := { s.mail with updates := rest }
      recipes :=
        if s.recipes[k].valid then
          s.recipes.set k { s.recipes[k] with
            bias := max (-500) (min 500
              (s.recipes[k].bias + (diff * s.recipes[k].fields.adaptGain).tdiv 1000))
            adaptCount := min 65535 (s.recipes[k].adaptCount + 1) }
        else s.recipes }

/-! ## The thermal model (spec/03) -/

/-- R44 to R49: one thermal step. The nodes after the energy are Ts1 and Tc1; the transfer keeps both
between them and moves at most half their difference; the surface never passes the ambient; and the
record takes the temperatures, the counters and the flags the rules give. A step of an unheated report
or of catch-up has no band, and no energy (R40, R44, R170). -/
def Obligations.ThermalStepFollowsTheStages : Prop :=
  ∀ (f : RecipeFields) (tAmb energy : Nat) (mode : LineMode) (band : Option Band)
    (r : BilletRecord), (band = none → energy = 0) →
    r.ts ≤ 16000 → r.tc ≤ 16000 → f.equalization ≤ 500 → f.loss ≤ 100 → tAmb ≤ 16000 →
    let rise := energy * 10000 / (r.mass * f.cp)
    let share := if band = some .high then f.sHigh else f.sLow
    let ts1 := min 16000 (r.ts + rise * share / 500)
    let tc1 := min 16000 (r.tc + rise * (1000 - share) / 500)
    let q := (((ts1 : Int) - tc1) * f.equalization).tdiv 1000
    let ts2 := (ts1 : Int) - q
    let tc2 := (tc1 : Int) + q
    let ts3 := ts2 - ((ts2 - tAmb) * f.loss).tdiv 1000
    let t := thermalStep f tAmb mode band energy r
    let inRow := ∃ p, r.place = .row p
    (min (ts1 : Int) tc1 ≤ ts2 ∧ ts2 ≤ max (ts1 : Int) tc1 ∧ min (ts1 : Int) tc1 ≤ tc2 ∧
      tc2 ≤ max (ts1 : Int) tc1 ∧ 2 * |q| ≤ |(ts1 : Int) - tc1|) ∧
    (((tAmb : Int) ≤ ts2 → (tAmb : Int) ≤ ts3 ∧ ts3 ≤ ts2) ∧
      (ts2 ≤ (tAmb : Int) → ts2 ≤ ts3 ∧ ts3 ≤ (tAmb : Int))) ∧
    (t.ts : Int) = ts3 ∧ (t.tc : Int) = tc2 ∧ t.energy = min 4000000000 (r.energy + energy) ∧
    (inRow → t.rowsRounds = min 65535 (r.rowsRounds + 1)) ∧
    (¬ inRow → t.rowsRounds = r.rowsRounds) ∧
    (inRow ∧ (mode = .hold ∨ mode = .tripped) → t.soakRounds = min 65535 (r.soakRounds + 1)) ∧
    (¬ (inRow ∧ (mode = .hold ∨ mode = .tripped)) → t.soakRounds = r.soakRounds) ∧
    (t.flags.overheat = true ↔ r.flags.overheat = true ∨ (f.tsMax : Int) + 500 < ts3) ∧
    (t.flags.soakExceeded = true ↔
      r.flags.soakExceeded = true ∨ f.maxSoak ≠ 0 ∧ f.maxSoak ≤ t.soakRounds) ∧
    t = { r with
      ts := t.ts, tc := t.tc, energy := t.energy, rowsRounds := t.rowsRounds,
      soakRounds := t.soakRounds,
      flags := { r.flags with overheat := t.flags.overheat, soakExceeded := t.flags.soakExceeded } }

/-- R41: the shares of a zone's energy are the truncated parts by mass, the last entry takes the
remainder, and they sum to the energy exactly. -/
def Obligations.SharesDivideTheEnergy : Prop :=
  ∀ (energy : Nat) (entries : List ReportEntry), entries ≠ [] →
    (∀ e ∈ entries, 500 ≤ e.mass) →
    (shares energy entries).length = entries.length ∧ (shares energy entries).sum = energy ∧
      ∀ k : Nat, k + 1 < entries.length →
        (shares energy entries)[k]? =
          entries[k]?.map fun e => energy * e.mass / (entries.map fun x => x.mass).sum

/-- R37, R41 to R43, R50, R51, R57: the oldest energy report of a zone, none of an earlier boundary
waiting before it, is taken: each live record it lists receives one step with its share, what
reaches no record is the idle credit, the records at the exit give step notices, and the demand
report carries the demand of the state after the steps. Which message of the channel is taken, the
oldest, is the model's choice (log entry 1). -/
def Obligations.EnergyReportStepsItsRecords : Prop :=
  ∀ (s : State) (z : ZoneId) (energy due : Nat) (band : Band) (entries : List ReportEntry)
    (before after : List Report), s.restart.hold = none → TagsDistinct s →
    s.mail.reports =
      before ++ { source := .zone z energy band, boundaryTime := due, entries := entries } :: after →
    (∀ r ∈ before, r.boundaryTime = due ∧ ∀ e b, r.source ≠ .zone z e b) →
    (∀ e ∈ entries, 500 ≤ e.mass) →
    let shared := entries.zip (shares energy entries)
    let live : ReportEntry → BilletRecord → Prop := fun e r => r.tag = e.tag ∧ r.loadSeq = e.loadSeq
    ∃ (t : State) (credit : Nat), exec (.energyReport z) s = .next t ∧
      t.pool = { s.pool with
        records := s.pool.records.map fun r =>
          match shared.find? fun x => decide (live x.1 r) with
          | none => r
          | some x =>
              thermalStep s.recipes[r.recipe].fields s.line.tAmb s.line.mode (some band) x.2 r } ∧
      (entries = [] → credit = energy) ∧
      (entries ≠ [] →
        ((shared.filter fun x => decide (∃ r ∈ s.pool.records, live x.1 r)).map Prod.snd).sum + credit
          = energy) ∧
      t.mail = { s.mail with
        reports := before ++ after
        credits := s.mail.credits ++ [(z, credit)]
        demands := s.mail.demands ++
          [{ zone := z, boundaryTime := due, demand := t.demandOf z }]
        steps := s.mail.steps ++
          (entries.filter fun e =>
            decide (∃ r ∈ s.pool.records, live e r ∧ r.place = .exit)).map fun e =>
              { tag := e.tag, loadSeq := e.loadSeq } } ∧
      UnchangedBut [.pool, .mail] s t

/-- R40, R43, R50: the oldest unheated report, none of an earlier boundary waiting before it, is
taken: each live record it lists receives one step without energy, with its step notice at the exit;
it gives no idle credit and no demand report. Which message of the channel is taken, the oldest, is
the model's choice (log entry 1). -/
def Obligations.UnheatedReportStepsItsRecords : Prop :=
  ∀ (s : State) (due : Nat) (entries : List ReportEntry) (before after : List Report),
    s.restart.hold = none → TagsDistinct s →
    s.mail.reports =
      before ++ { source := .unheated, boundaryTime := due, entries := entries } :: after →
    (∀ r ∈ before, r.boundaryTime = due ∧ r.source ≠ .unheated) →
    let live : ReportEntry → BilletRecord → Prop := fun e r => r.tag = e.tag ∧ r.loadSeq = e.loadSeq
    exec .unheatedReport s = .next { s with
      pool := { s.pool with
        records := s.pool.records.map fun r =>
          if ∃ e ∈ entries, live e r then
            thermalStep s.recipes[r.recipe].fields s.line.tAmb s.line.mode none 0 r
          else r }
      mail := { s.mail with
        reports := before ++ after
        steps := s.mail.steps ++
          (entries.filter fun e =>
            decide (∃ r ∈ s.pool.records, live e r ∧ r.place = .exit)).map fun e =>
              { tag := e.tag, loadSeq := e.loadSeq } } }

/-- R51 to R56, R24: a zone's demand. It is 0 in STOPPED, SERVICE and TRIPPED, and for a zone that
is disabled, whose zone_target and hold_temp are not read (R24, R78; that this makes the demand 0 is
log entry 20). In RUN, HOLD and DRAIN each record in the row within the zone's positions has its
need: the lag of its corrected mean behind its clamped target, as energy spread over its rounds
left, with the surface guard and the gradient guard. The demand is 0 when the needs sum to 0;
otherwise it is their power through the efficiency in use, rounded up, clamped to max_kW and raised
to min_kW. -/
def Obligations.DemandFitsTheZone : Prop :=
  ∀ (s : State) (z : ZoneId), s.zones[z].map.InRange → 500 ≤ s.zones[z].eff →
    let least := s.zones[z].map.minKW
    let most := s.zones[z].map.maxKW
    let eff :=
      if s.zones[z].tuningAge < s.tuner.window then s.zones[z].eff
      else s.zones[z].eff * 875 / 1000
    let idle := s.line.mode = .stopped ∨ s.line.mode = .service ∨ s.line.mode = .tripped
    let cadence :=
      if s.row.cadenceHistory.length < 4 then s.line.nominalCadence
      else max 1 (min 3000 (s.row.cadenceHistory.sum / 4))
    let standsAt : Nat → Option BilletRecord := fun p =>
      (s.row.tagAt p).bind fun tag =>
        if tag = 0 then none else s.pool.records.find? fun r => r.tag == tag
    let needAt : Nat → BilletRecord → Nat := fun p r =>
      let f := s.recipes[r.recipe].fields
      let aim := if s.line.mode = .hold then f.holdTemp else f.zoneTarget[z]
      let target : Int := max 0 (min 16000 (aim + r.targetOffset))
      let lag := target - (((r.ts + r.tc) / 2 : Nat) + s.recipes[r.recipe].bias)
      let roundsLeft := if s.line.mode = .hold then 25 else (s.zones[z].map.lastPos - p + 1) * cadence
      let d := lag.toNat * r.mass * f.cp / 10000 / roundsLeft
      if lag ≤ 0 then 0
      else if f.tsMax ≤ r.ts then 0
      else if (f.gradMax : Int) ≤ (r.ts : Int) - r.tc then d / 2
      else d
    let needs := if idle ∨ s.zones[z].map.enabled = false then 0 else
      (((List.range 40).filter fun p =>
        decide (s.zones[z].map.firstPos ≤ p ∧ p ≤ s.zones[z].map.lastPos)).map fun p =>
          match standsAt p with
          | none => 0
          | some r => needAt p r).sum
    (idle ∨ s.zones[z].map.enabled = false → s.demandOf z = 0) ∧
    (s.demandOf z = 0 ↔ needs = 0) ∧
    (needs ≠ 0 → ∃ power : Nat, (power - 1) * eff < needs * 5 ∧ needs * 5 ≤ power * eff ∧
      s.demandOf z = max least (min most power)) ∧
    (s.demandOf z = 0 ∨ least ≤ s.demandOf z ∧ s.demandOf z ≤ most)

/-! ## The heating row (spec/04) -/

/-- R60: SET_ROW_LENGTH's checks in their order, and the length it writes. That a refusal carries
no data is log entry 22. -/
def Obligations.RowLengthChecked : Prop :=
  ∀ (s : State) (c value : Nat), s.Taking c →
    let refused : Status → Prop := fun status =>
      exec (.setRowLength c value) s = .next (s.answered c { status := status, payload := .none })
    if s.line.mode ≠ .stopped ∧ s.line.mode ≠ .service then refused .wrongMode
    else if value < 4 ∨ 40 < value then refused .badValue
    else if ∃ z : ZoneId, s.zones[z].map.enabled = true ∧ value ≤ s.zones[z].map.lastPos then
      refused .badValue
    else exec (.setRowLength c value) s = .next { s with
      row := { s.row with length := value }
      link := s.link.answered c { status := .ok, payload := .rowLength value } }

/-- R62, R63, R69, R181: a PUSH_FWD edge in IDLE begins a stroke, counted as a violation when
PUSH_PERMIT was deasserted, and in MOVING is a repeat; a PUSH_HOME edge in IDLE is unmatched and
only counted; and a transition the selection does not count changes the pin alone. -/
def Obligations.StrokeEdgesActByState : Prop :=
  ∀ (s : State) (e : Transition), s.restart.hold = none →
    let forward := { s with pins := { s.pins with pushFwd := decide (e = .rising) } }
    let home := { s with pins := { s.pins with pushHome := decide (e = .rising) } }
    (exec (.strokeBegin e) s = .next (
      if s.link.edges.pushFwd.counts e = false then forward
      else if s.row.stroke = .idle then { forward with row := { s.row with
        stroke := .moving, strokeTimer := some (s.clock.count + 8000)
        permitViolations :=
          if (s.line.mode = .run ∨ s.line.mode = .drain) ∧ s.exit.state = .empty then
            s.row.permitViolations
          else min 65535 (s.row.permitViolations + 1) } }
      else { forward with row := { s.row with
        fwdRepeats := min 65535 (s.row.fwdRepeats + 1) } })) ∧
    (s.link.edges.pushHome.counts e = false → exec (.strokeEnd e) s = .next home) ∧
    (s.link.edges.pushHome.counts e = true → s.row.stroke = .idle →
      exec (.strokeEnd e) s = .next { home with row := { s.row with
        homeUnmatched := min 65535 (s.row.homeUnmatched + 1) } })

/-- R64, R66, R10, R67, R73, R75, R154: a stroke end without push-off. The stroke state is IDLE; every
content rises by one position, the queue fills position 0 in RUN only, the last record arrives at the
exit; the cadence is measured; QUEUE_LOW is tested in RUN; and in DRAIN an empty line is STOPPED. -/
def Obligations.StrokeEndShiftsTheRow : Prop :=
  ∀ (s : State) (e : Transition), s.restart.hold = none → s.link.edges.pushHome.counts e = true →
    s.row.stroke = .moving → 4 ≤ s.row.length → s.row.length ≤ 40 →
    let last := s.row.tagAt (s.row.length - 1)
    let feed := if s.line.mode = .run then s.pool.queue.head? else none
    (last = none ∨ s.exit.state = .empty) →
    ∃ t : State, exec (.strokeEnd e) s = .next t ∧
      (∀ p : Nat, p + 1 < s.row.length → t.row.tagAt (p + 1) = s.row.tagAt p) ∧
      t.row.tagAt 0 = feed ∧ (∀ p : Nat, s.row.length ≤ p → t.row.tagAt p = none) ∧
      t.row = { s.row with
        positions := t.row.positions, stroke := .idle, strokeTimer := none
        cadenceCount := some 0
        cadenceHistory :=
          match s.row.cadenceCount with
          | none => s.row.cadenceHistory
          | some n =>
              (if s.row.cadenceHistory.length < 4 then s.row.cadenceHistory
                else s.row.cadenceHistory.tail) ++ [n] } ∧
      t.pool = { s.pool with
        queue := if s.line.mode = .run then s.pool.queue.tail else s.pool.queue
        records := s.pool.records.map fun r => { r with
          place :=
            if feed = some r.tag then .row 0
            else if last = some r.tag then .exit
            else match r.place with
              | .queued => .queued
              | .row p => .row (p + 1)
              | .exit => .exit } } ∧
      t.exit = (match last with
        | none => s.exit
        | some tag => { s.exit with
            slot := some tag, state := .measuring, readings := []
            windowTimer := some (s.clock.count + 1500) }) ∧
      t.link = { s.link with
        flags := if s.line.mode = .run ∧ t.pool.queue.length < s.line.queueLow then
          s.link.flags ||| 64 else s.link.flags } ∧
      t.line = (if s.line.mode = .drain ∧ (∀ p : Fin 40, t.row.positions[p] = none) ∧
          t.exit.state = .empty then { s.line with mode := .stopped, autoHold := none }
        else s.line) ∧
      t.pins = { s.pins with pushHome := decide (e = .rising) } ∧
      UnchangedBut [.row, .pool, .exit, .link, .line, .pins] s t

/-- R64, R66, R67, R10, R73, R75, R146, R145, R156: a stroke end whose last position holds a record
while the exit is occupied pushes the held record off: it is retired PUSHED_OFF and the incoming
record arrives. Every other content rises by one position and the queue fills position 0 in RUN
only; the cadence is measured; STROKE_FAULT is set, and QUEUE_LOW is tested in RUN; and in RUN or
DRAIN the line enters HOLD with cause PUSH_OFF. -/
def Obligations.PushOffRetiresTheHeldRecord : Prop :=
  ∀ (s : State) (e : Transition) (tag : Nat) (held : BilletRecord), s.restart.hold = none →
    s.link.edges.pushHome.counts e = true → s.row.stroke = .moving → TagsDistinct s →
    s.row.length ≤ 40 → s.row.tagAt (s.row.length - 1) = some tag → s.exit.state ≠ .empty →
    s.exit.slot = some held.tag → held ∈ s.pool.records → held.tag ≠ tag →
    let feed := if s.line.mode = .run then s.pool.queue.head? else none
    let pushing := s.line.mode = .run ∨ s.line.mode = .drain
    let low := s.line.mode = .run ∧ s.pool.queue.tail.length < s.line.queueLow
    let flags := if low then s.link.flags ||| 1 ||| 32 ||| 64 else s.link.flags ||| 1 ||| 32
    ∃ t : State, exec (.strokeEnd e) s = .next t ∧
      t.pool = { s.pool with
        records := (s.pool.records.filter fun r => r.tag != held.tag).map fun r => { r with
          place :=
            if feed = some r.tag then .row 0
            else if r.tag = tag then .exit
            else match r.place with
              | .queued => .queued
              | .row p => .row (p + 1)
              | .exit => .exit }
        queue := if s.line.mode = .run then s.pool.queue.tail else s.pool.queue
        lastRetired := some { held with outcome := some .pushedOff }
        outcomes := s.pool.outcomes.set 8 (min 65535 (s.pool.outcomes[8] + 1)) } ∧
      t.recipes = s.recipes.set held.recipe
        { s.recipes[held.recipe] with users := s.recipes[held.recipe].users - 1 } ∧
      t.exit = { s.exit with
        slot := some tag, state := .measuring, readings := [], waitRounds := none
        transferTimer := none, windowTimer := some (s.clock.count + 1500) } ∧
      (∀ p : Nat, p + 1 < s.row.length → t.row.tagAt (p + 1) = s.row.tagAt p) ∧
      t.row.tagAt 0 = feed ∧ (∀ p : Nat, 1 ≤ p → s.row.length ≤ p → t.row.tagAt p = none) ∧
      t.row = { s.row with
        positions := t.row.positions, stroke := .idle, strokeTimer := none
        cadenceCount := some 0
        cadenceHistory :=
          match s.row.cadenceCount with
          | none => s.row.cadenceHistory
          | some n =>
              (if s.row.cadenceHistory.length < 4 then s.row.cadenceHistory
                else s.row.cadenceHistory.tail) ++ [n] } ∧
      t.link = { s.link with flags := if pushing then flags ||| 16 else flags } ∧
      t.line = (if pushing then
          { s.line with mode := .hold, holdCause := some .pushOff, autoHold := none }
        else s.line) ∧
      t.pins = { s.pins with pushHome := decide (e = .rising) } ∧
      UnchangedBut [.row, .pool, .recipes, .exit, .link, .line, .pins] s t

/-- R65, R156: the expiry of the stroke timer, at its due time, sets STROKE_FAULT, stops the timer,
and in RUN or DRAIN takes the line to HOLD with cause STROKE_TIMEOUT; the stroke stays open. That an
expiry first lets time reach its due count is log entry 3. -/
def Obligations.StrokeTimerExpires : Prop :=
  ∀ (s : State) (due : Nat), s.restart.hold = none → s.row.strokeTimer = some due →
    let u := s.reach due
    exec .strokeTimerExpiry s = .next { u with
      row := { s.row with strokeTimer := none }
      line := if s.line.mode = .run ∨ s.line.mode = .drain then
        { s.line with mode := .hold, holdCause := some .strokeTimeout, autoHold := none } else s.line
      link := { s.link with
        flags := if s.line.mode = .run ∨ s.line.mode = .drain then s.link.flags ||| 32 ||| 16
          else s.link.flags ||| 32 } }

/-! ## Coil zones and inverter ports (spec/05) -/

/-- R79, R80, R118, R122, R124: SET_ZONE's checks in their order, each refusal changing nothing; and
the entry, the band, the overdue flag and the tuning pointer of an accepted one. That a refusal
carries no data is log entry 22. -/
def Obligations.SetZoneWritesOrRefuses : Prop :=
  ∀ (s : State) (c n : Nat) (f : ZoneFields), s.Taking c →
    let refused : Status → Prop := fun status =>
      exec (.setZone c n f) s = .next (s.answered c { status := status, payload := .none })
    if s.line.mode ≠ .stopped ∧ s.line.mode ≠ .service then refused .wrongMode
    else if s.tuner.allState = .running then refused .busy
    else if 11 < n ∨ 3 < f.level ∨ 1 < f.enabled ∨ 1 < f.band then refused .badValue
    else
      ∃ (z : ZoneId) (level : Level), z.val = n ∧ level.val = f.level ∧
        let entry : ZoneMap :=
          { firstPos := f.firstPos, lastPos := f.lastPos, maxKW := max 10 (min 1500 f.maxKW),
            minKW := f.minKW, level := level, enabled := decide (f.enabled = 1) }
        let mapOf : ZoneId → ZoneMap := fun y => if y = z then entry else s.zones[y].map
        let becomesOverdue := s.zones[z].map.enabled = false ∧ entry.enabled = true ∧
          s.tuner.window ≤ s.zones[z].tuningAge
        if s.zones[z].state ≠ .off ∧ s.zones[z].state ≠ .faulted then refused .busy
        else if f.lastPos < f.firstPos ∨ 39 < f.lastPos then refused .badValue
        else if f.minKW < 5 ∨ entry.maxKW < f.minKW then refused .badValue
        else if entry.enabled = true ∧ s.row.length ≤ f.lastPos then refused .badValue
        else if entry.enabled = true ∧ ∃ y : ZoneId, y ≠ z ∧ s.zones[y].map.enabled = true ∧
            f.firstPos ≤ s.zones[y].map.lastPos ∧ s.zones[y].map.firstPos ≤ f.lastPos then
          refused .badValue
        else if s.feeder.feederLimit ≠ 0 ∧ s.feeder.feederLimit <
            (((List.finRange 12).filter fun y => (mapOf y).enabled).map fun y =>
              (mapOf y).minKW).sum then
          refused .badValue
        else
          ∃ t : State, exec (.setZone c n f) s = .next t ∧
            t.zones = s.zones.set z { s.zones[z] with
              map := entry, band := if f.band = 0 then .low else .high, pendingBand := none } ∧
            t.tuner = { s.tuner with
              pointer :=
                match s.tuner.pointer with
                | none => (List.finRange 12).find? fun y => (mapOf y).enabled
                | some p =>
                    if (mapOf p).enabled then some p
                    else ((List.range 12).map fun k => Fin.ofNat 12 (p.val + 1 + k)).find? fun y =>
                      (mapOf y).enabled } ∧
            t.link = { s.link.answered c { status := .ok, payload := .zone (t.zoneView z) } with
              flags := if becomesOverdue then s.link.flags ||| 128 else s.link.flags } ∧
            UnchangedBut [.zones, .tuner, .link] s t

/-- R97 and R90 (with R86): SET_ZONE_BAND and CLEAR_ZONE_FAULT in every state of the zone, with their
refusals and the zone's data as it stands after the event. That a refusal with BAD_VALUE
carries no data is log entry 22. -/
def Obligations.ZoneRequestsActByState : Prop :=
  ∀ (s : State) (c n b : Nat), s.Taking c →
    (11 < n ∨ 1 < b → exec (.setZoneBand c n b) s =
      .next (s.answered c { status := .badValue, payload := .none })) ∧
    (11 < n → exec (.clearZoneFault c n) s =
      .next (s.answered c { status := .badValue, payload := .none })) ∧
    ∀ z : ZoneId, z.val = n →
      let zone := s.zones[z]
      (b ≤ 1 →
        let band : Band := if b = 0 then .low else .high
        ∃ t : State, exec (.setZoneBand c n b) s = .next t ∧
          t.zones = s.zones.set z
            (if band = zone.band then { zone with pendingBand := none }
              else if zone.state = .off then { zone with band := band, pendingBand := none }
              else { zone with pendingBand := some band }) ∧
          t.link = s.link.answered c { status := .ok, payload := .zone (t.zoneView z) } ∧
          UnchangedBut [.zones, .link] s t) ∧
      (zone.state ≠ .faulted → exec (.clearZoneFault c n) s =
        .next (s.answered c { status := .ok, payload := .zone (s.zoneView z) })) ∧
      (zone.state = .faulted → zone.lastReport = some .fault → exec (.clearZoneFault c n) s =
        .next (s.answered c { status := .faultLatched, payload := .zone (s.zoneView z) })) ∧
      (zone.state = .faulted → zone.lastReport ≠ some .fault →
        ∃ t : State, exec (.clearZoneFault c n) s = .next t ∧
          t.zones = s.zones.set z { zone with
            state := .stopping, timer := some (s.clock.count + 600), grantInForce := 0
            nextGrant := none, onSince := none } ∧
          t.sent = s.sent ++ [(z, .stop)] ∧
          t.link = s.link.answered c { status := .ok, payload := .zone (t.zoneView z) } ∧
          UnchangedBut [.zones, .sent, .link] s t)

/-- R91, R84, R86, R81: the oldest grant sent to a zone starts an OFF zone, waits as next_grant or
stops a running one, and is discarded and counted in the other states. Which message of the channel
is taken, the oldest, is the model's choice (log entry 1). -/
def Obligations.GrantActsByState : Prop :=
  ∀ (s : State) (z : ZoneId) (kW : Nat) (before after : List (ZoneId × Nat)),
    s.restart.hold = none → s.mail.grants = before ++ (z, kW) :: after →
    (∀ m ∈ before, m.1 ≠ z) →
    let zone := s.zones[z]
    let taken := { s with mail := { s.mail with grants := before ++ after } }
    exec (.grant z) s = .next (
      if zone.state = .off then
        if kW = 0 then taken
        else { taken with
          zones := s.zones.set z { zone with
            grantInForce := kW, meteredGrant := kW, state := .starting
            timer := some (s.clock.count + 300), starts := min 65535 (zone.starts + 1) }
          sent := s.sent ++ [(z, .run kW zone.band)] }
      else if zone.state = .starting ∨ zone.state = .on then
        if kW = 0 then { taken with
          zones := s.zones.set z { zone with
            state := .stopping, timer := some (s.clock.count + 600), grantInForce := 0
            nextGrant := none, onSince := none }
          sent := s.sent ++ [(z, .stop)] }
        else { taken with zones := s.zones.set z { zone with nextGrant := some kW } }
      else { taken with
        zones := s.zones.set z
          { zone with grantsDiscarded := min 65535 (zone.grantsDiscarded + 1) } })

/-- R96 and R87: the oldest idle credit sent to a zone is added to idle_energy, saturating; the
oldest tune order starts the tuning of an enabled OFF zone, and any other zone answers that it is
refused. Which message of the channel is taken, the oldest, is the model's choice (log entry 1). -/
def Obligations.CreditAndOrderTaken : Prop :=
  ∀ (s : State) (z : ZoneId), s.restart.hold = none →
    (∀ (joules : Nat) (before after : List (ZoneId × Nat)),
      s.mail.credits = before ++ (z, joules) :: after → (∀ m ∈ before, m.1 ≠ z) →
      exec (.idleCredit z) s = .next { s with
        mail := { s.mail with credits := before ++ after }
        zones := s.zones.set z { s.zones[z] with
          idleEnergy := min 4000000000 (s.zones[z].idleEnergy + joules) } }) ∧
    ∀ before after : List ZoneId, s.mail.orders = before ++ z :: after → z ∉ before →
      exec (.tuneOrder z) s = .next (
        if s.zones[z].map.enabled = true ∧ s.zones[z].state = .off then { s with
          mail := { s.mail with orders := before ++ after }
          zones := s.zones.set z { s.zones[z] with
            state := .tuning, timer := some (s.clock.count + 3000) }
          sent := s.sent ++ [(z, .tune s.zones[z].band)] }
        else { s with mail := { s.mail with
          orders := before ++ after, outcomes := s.mail.outcomes ++ [(z, .refused)] } })

/-- R82, R85, R88, R89, R97, R99: every report is written into last_report; RUNNING turns a STARTING
zone ON, TUNED ends a tuning, FAULT takes any zone to FAULTED, HEALTHY does nothing more, and a
report that its state does not await is counted as stray. -/
def Obligations.InverterReportsTaken : Prop :=
  ∀ (s : State) (z : ZoneId), s.restart.hold = none →
    let zone := s.zones[z]
    let stray := min 65535 (zone.strayReports + 1)
    let afterRunning : ZoneChannel :=
      if zone.state = .starting then { zone with
        lastReport := some .running, state := .on, timer := none, onSince := some s.clock.count
        meteredBand := zone.band }
      else { zone with lastReport := some .running, strayReports := stray }
    (exec (.inverterRunning z) s = .next { s with zones := s.zones.set z afterRunning }) ∧
    (∀ eff : Nat, exec (.inverterTuned z eff) s = .next (
      if zone.state ≠ .tuning then
        { s with zones :=
          s.zones.set z { zone with lastReport := some .tuned, strayReports := stray } }
      else if 500 ≤ eff ∧ eff ≤ 980 then { s with
        zones := s.zones.set z { zone with
          lastReport := some .tuned, state := .off, timer := none, eff := eff, tuningAge := 0
          band := zone.pendingBand.getD zone.band, pendingBand := none }
        mail := { s.mail with outcomes := s.mail.outcomes ++ [(z, .succeeded)] } }
      else { s with
        zones := s.zones.set z { zone with
          lastReport := some .tuned, state := .faulted, timer := none, grantInForce := 0
          nextGrant := none, onSince := none, faultCause := some .tuneRange
          faults := min 65535 (zone.faults + 1) }
        link := { s.link with flags := s.link.flags ||| 4 }
        mail := { s.mail with outcomes := s.mail.outcomes ++ [(z, .failed)] } })) ∧
    (∀ code : Nat, exec (.inverterFault z code) s = .next { s with
      zones := s.zones.set z { zone with
        lastReport := some .fault, inverterCode := some code, state := .faulted, timer := none
        grantInForce := 0, nextGrant := none, onSince := none, faultCause := some .inverter
        faults := min 65535 (zone.faults + 1) }
      link := { s.link with flags := s.link.flags ||| 4 }
      mail := { s.mail with
        outcomes := s.mail.outcomes ++ if zone.state = .tuning then [(z, .failed)] else [] } }) ∧
    exec (.inverterHealthy z) s = .next { s with
      zones := s.zones.set z { zone with lastReport := some .healthy } } ∧
    exec (.strayReport z) s = .next { s with
      zones := s.zones.set z { zone with strayReports := stray } }

/-- R85, R86, R88, R97: the expiry of a zone's start, recovery or tune timer, at its due time:
FAULTED with START_TIMEOUT, OFF with a pending band applied, and FAULTED with TUNE_TIMEOUT. That an
expiry first lets time reach its due count is log entry 3. -/
def Obligations.ZoneTimersExpire : Prop :=
  ∀ (s : State) (z : ZoneId) (due : Nat), s.restart.hold = none → s.zones[z].timer = some due →
    let u := s.reach due
    let zone := u.zones[z]
    let faulted : FaultCause → ZoneChannel := fun cause => { zone with
      state := .faulted, timer := none, grantInForce := 0, nextGrant := none, onSince := none
      faultCause := some cause, faults := min 65535 (zone.faults + 1) }
    (s.zones[z].state = .starting → exec (.startTimeout z) s = .next { u with
      zones := u.zones.set z (faulted .startTimeout)
      link := { s.link with flags := s.link.flags ||| 4 } }) ∧
    (s.zones[z].state = .stopping → exec (.recoveryExpiry z) s = .next { u with
      zones := u.zones.set z { zone with
        state := .off, timer := none, band := zone.pendingBand.getD zone.band
        pendingBand := none } }) ∧
    (s.zones[z].state = .tuning → exec (.tuneTimeout z) s = .next { u with
      zones := u.zones.set z (faulted .tuneTimeout)
      link := { s.link with flags := s.link.flags ||| 4 }
      mail := { s.mail with outcomes := s.mail.outcomes ++ [(z, .failed)] } })

/-- R164 and R93: when milliseconds pass, the count rises by them, saturating; the meter of an ON
zone counts each quantum of the round that ends in them and throughout which the zone was ON, up to
20; and nothing else changes. That the quanta are counted from the round timer's start, also after a
restart, is log entry 7. An idle step with an event due takes that event, and with nothing due lets
one millisecond pass (the model's choice, log entry 4); while power-on reset holds the part no time
counts (R164, R165; log entry 14). -/
def Obligations.TimeCountsWholeQuanta : Prop :=
  (∀ (s : State) (n : Nat), s.feeder.roundStart ≤ s.clock.count →
    s.clock.count ≤ 281474976710655 →
    let u := s.elapse n
    u.clock = { s.clock with count := min 281474976710655 (s.clock.count + n) } ∧
      UnchangedBut [.clock, .zones] s u ∧
      ∀ z : ZoneId,
        (s.zones[z].state ≠ .on → u.zones[z] = s.zones[z]) ∧
        ∀ since : Nat, s.zones[z].state = .on → s.zones[z].onSince = some since →
          u.zones[z] = { s.zones[z] with
            qOn := min 20 (s.zones[z].qOn +
              ((List.range (u.clock.count - s.feeder.roundStart)).filter fun k =>
                decide (s.clock.count < s.feeder.roundStart + 10 * (k + 1) ∧
                  s.feeder.roundStart + 10 * (k + 1) ≤ u.clock.count ∧
                  since ≤ s.feeder.roundStart + 10 * k)).length) }) ∧
  (∀ (s : State) (due : Nat), s.clock.count ≤ due → due ≤ 281474976710655 →
    (s.reach due).clock.count = due) ∧
  ∀ s : State, s.pending = [] →
    (s.dueEvent = none → s.restart.hold ≠ some .powerOn → step s = .next (s.elapse 1)) ∧
    (∀ i : Instr, s.dueEvent = some i → step s = exec i s) ∧
    (s.restart.hold = some .powerOn → step s = .next s)

/-! ## Feeder arbitration (spec/06) -/

/-- R101, R94, R38 to R40, R71, R92, R102, R124: a round boundary, 200 ms after the round timer's
start. Each zone's meter is closed and reported, its next grant put in force and its age raised; the
lists are drawn from one reading; the cadence counts; the time base takes the time; and the
collection opens over the enabled zones, an open one being closed unsettled (R103); with no zone
enabled the opened collection is complete and its arbitration is made in the same event. That an
expiry first lets time reach its due count is log entry 3, and that the next 200 ms count from the
boundary as taken is log entry 21. -/
def Obligations.BoundaryOpensTheRound : Prop :=
  ∀ s : State, s.restart.hold = none → TagsDistinct s →
    let u := s.reach (s.feeder.roundStart + 200)
    let now := u.clock.count
    let entryAt : Nat → Option ReportEntry := fun p =>
      (u.row.tagAt p).bind fun tag => (u.pool.records.find? fun r => r.tag == tag).map fun r =>
        { tag := r.tag, loadSeq := r.loadSeq, mass := r.mass, position := some p }
    let inZone : ZoneId → Nat → Bool := fun z p =>
      decide (u.zones[z].map.firstPos ≤ p ∧ p ≤ u.zones[z].map.lastPos)
    let effUsed : ZoneId → Nat := fun z =>
      if u.zones[z].tuningAge < u.tuner.window then u.zones[z].eff else u.zones[z].eff * 875 / 1000
    let zoneReport : ZoneId → Option Report := fun z =>
      if u.zones[z].map.enabled then
        some ⟨.zone z (u.zones[z].meteredGrant * u.zones[z].qOn * 10 * effUsed z / 1000)
            (if 0 < u.zones[z].qOn then u.zones[z].meteredBand else u.zones[z].band),
          now, ((List.range 40).filter (inZone z)).filterMap entryAt⟩
      else none
    let unheated : Report :=
      { source := .unheated, boundaryTime := now
        entries :=
          ((List.range 40).filter fun p =>
            (List.finRange 12).all fun z => !(u.zones[z].map.enabled && inZone z p)).filterMap
              entryAt ++
            ((u.exit.slot.bind fun tag => u.pool.records.find? fun r => r.tag == tag).map fun r =>
              { tag := r.tag, loadSeq := r.loadSeq, mass := r.mass, position := none }).toList }
    ∃ t : State, exec .roundBoundary s = .next t ∧
      let opened : State := { t with
        feeder := { u.feeder with
          roundStart := now, collection := .collecting, collectionTime := now
          expected := t.feeder.expected, unsettledRounds := t.feeder.unsettledRounds
          demands := Vector.replicate 12 none }
        mail := { u.mail with reports := t.mail.reports } }
      t = (if ∃ z : ZoneId, u.zones[z].map.enabled = true then opened else opened.arbitrate) ∧
      (∀ z : ZoneId, u.zones[z].map.lastPos ≤ 39 → t.zones[z] = { u.zones[z] with
        qOn := 0, tuningAge := min 65535 (u.zones[z].tuningAge + 1)
        grantInForce :=
          if u.zones[z].state = .starting ∨ u.zones[z].state = .on then
            u.zones[z].nextGrant.getD u.zones[z].grantInForce else u.zones[z].grantInForce
        meteredGrant :=
          if u.zones[z].state = .starting ∨ u.zones[z].state = .on then
            u.zones[z].nextGrant.getD u.zones[z].meteredGrant else u.zones[z].meteredGrant
        nextGrant :=
          if u.zones[z].state = .starting ∨ u.zones[z].state = .on then none
          else u.zones[z].nextGrant }) ∧
      ((∀ z : ZoneId, u.zones[z].map.lastPos ≤ 39) →
        t.mail.reports = u.mail.reports ++ (List.finRange 12).filterMap zoneReport ++ [unheated]) ∧
      t.sent = u.sent ++ (List.finRange 12).filterMap (fun z =>
        match u.zones[z].nextGrant with
        | some g =>
            if u.zones[z].state = .on ∧ g ≠ u.zones[z].grantInForce then
              some (z, InverterCommand.setpoint g) else none
        | none => none) ∧
      t.row = { u.row with cadenceCount := u.row.cadenceCount.map fun n => min 3000 (n + 1) } ∧
      t.clock = { count := now, lastBoundary := now } ∧ t.feeder.roundStart = now ∧
      t.link = { u.link with flags :=
        if ∃ z : ZoneId, u.zones[z].map.enabled = true ∧ u.zones[z].tuningAge < u.tuner.window ∧
          u.tuner.window ≤ min 65535 (u.zones[z].tuningAge + 1) then u.link.flags ||| 128
        else u.link.flags } ∧
      t.feeder.collectionTime = now ∧
      (∀ z : ZoneId, t.feeder.expected[z] = u.zones[z].map.enabled) ∧
      t.feeder.unsettledRounds = (if u.feeder.collection = .collecting then
        min 65535 (u.feeder.unsettledRounds + 1) else u.feeder.unsettledRounds) ∧
      ((∃ z : ZoneId, u.zones[z].map.enabled = true) →
        t.feeder = { u.feeder with
          roundStart := now, collection := .collecting, collectionTime := now
          expected := t.feeder.expected, unsettledRounds := t.feeder.unsettledRounds
          demands := Vector.replicate 12 none } ∧
        t.mail = { u.mail with reports := t.mail.reports }) ∧
      ((∀ z : ZoneId, u.zones[z].map.enabled = false) → t.feeder.collection = .settled ∧
        t.mail.grants = u.mail.grants ∧ t.mail.notices = u.mail.notices ++
          [{ collectionTime := now, grants := Vector.replicate 12 none }]) ∧
      UnchangedBut [.zones, .mail, .sent, .row, .clock, .feeder, .link] u t

/-- R103: a zone's oldest demand report is entered when the collection awaits it, and makes the
arbitration when it completes the collection; any other report is discarded. Which message of the
channel is taken, the oldest, is the model's choice (log entry 1). -/
def Obligations.DemandReportEntered : Prop :=
  ∀ (s : State) (m : DemandMessage) (before after : List DemandMessage), s.restart.hold = none →
    s.mail.demands = before ++ m :: after → (∀ x ∈ before, x.zone ≠ m.zone) →
    let taken := { s with mail := { s.mail with demands := before ++ after } }
    let entered := { taken with feeder := { s.feeder with
      demands := s.feeder.demands.set m.zone (some m.demand) } }
    exec (.demandReport m.zone) s = .next (
      if s.feeder.collection = .collecting ∧ m.boundaryTime = s.feeder.collectionTime ∧
          s.feeder.expected[m.zone] = true ∧ s.feeder.demands[m.zone] = none then
        if ∀ z : ZoneId, s.feeder.expected[z] = true → z ≠ m.zone →
            s.feeder.demands[z] ≠ none then entered.arbitrate
        else entered
      else taken)

/-- R104 to R112, R114, R116: an arbitration settles the collection, sends one grant to each
expected zone in ascending order and then the round notice, and writes the settlement record. In
STOPPED, SERVICE and TRIPPED every grant is 0 and neither the level pointers nor the start history
change. In RUN, HOLD and DRAIN the excluded zones get 0, each with its first reason; the running
zones within MIN_ON have their min_kW set aside; then the zones of levels 0 to 3, each level in
cyclic order after its pointer, are served one by one from the budget, the start history and the
count of deferred starts that the zones before them left, each with its grant, share and
disposition; and each level's pointer moves to the first zone of its order whose share is above 0.
-/
def Obligations.ArbitrationSettlesTheRound : Prop :=
  ∀ s : State, ∃ (record : Settlement),
    let t := s.arbitrate
    let idle := s.line.mode = .stopped ∨ s.line.mode = .service ∨ s.line.mode = .tripped
    let now := s.clock.count
    let demand : ZoneId → Nat := fun z => s.feeder.demands[z].getD 0
    let running : ZoneId → Prop := fun z => s.zones[z].state = .starting ∨ s.zones[z].state = .on
    let met : ZoneId → Bool := fun z => decide (s.zones[z].state = .on) &&
      s.zones[z].onSince.any fun since => decide (2000 ≤ now - since)
    let excluded : ZoneId → Option Disposition := fun z =>
      if s.zones[z].state = .stopping ∨ s.zones[z].state = .tuning ∨ s.zones[z].state = .faulted then
        some .exclState
      else if met z = true ∧ s.zones[z].pendingBand ≠ none then some .exclBand
      else if s.tuner.pointer = some z ∧ s.tuner.window ≤ s.zones[z].tuningAge ∧
          (s.zones[z].state = .off ∨ met z = true) then some .exclTuning
      else none
    let commits : ZoneId → Prop := fun z => running z ∧ met z = false
    let committed : ZoneId → Nat := fun z =>
      if s.feeder.expected[z] = true ∧ excluded z = none ∧ commits z then s.zones[z].map.minKW else 0
    let order : Level → List ZoneId := fun l =>
      ((List.range 12).map fun k => Fin.ofNat 12 (s.feeder.pointers[l].val + 1 + k)).filter fun z =>
        decide (s.feeder.expected[z] = true ∧ s.zones[z].map.level = l ∧ excluded z = none)
    let served := order 0 ++ order 1 ++ order 2 ++ order 3
    t.feeder = { s.feeder with
        settlement := some record, collection := .settled, pointers := t.feeder.pointers
        startHistory := t.feeder.startHistory, deferredStarts := t.feeder.deferredStarts } ∧
      record.roundTime = s.feeder.collectionTime ∧ record.settledAt = now ∧
      record.mode = s.line.mode ∧ record.limit = s.feeder.feederLimit ∧
      (∀ z : ZoneId, record.zones[z] = none ↔ s.feeder.expected[z] = false) ∧
      (∀ (z : ZoneId) (e : ZoneSettlement), record.zones[z] = some e → e.demand = demand z) ∧
      t.mail = { s.mail with
        grants := s.mail.grants ++
          (List.finRange 12).filterMap fun z => record.zones[z].map fun e => (z, e.grant)
        notices := s.mail.notices ++
          [{ collectionTime := s.feeder.collectionTime,
             grants := record.zones.map fun e => e.map fun x => x.grant }] } ∧
      (idle → record.budgetLeft = 0 ∧ t.feeder.pointers = s.feeder.pointers ∧
        t.feeder.startHistory = s.feeder.startHistory ∧
        t.feeder.deferredStarts = min 65535 s.feeder.deferredStarts ∧
        ∀ (z : ZoneId) (e : ZoneSettlement), record.zones[z] = some e →
          e.grant = 0 ∧ e.committed = 0 ∧ e.disposition = .mode) ∧
      (¬ idle → ∃ (budget deferred : Nat → Nat) (history : Nat → List Nat) (share : ZoneId → Nat),
        budget 0 = s.feeder.feederLimit - ((List.finRange 12).map committed).sum ∧
        deferred 0 = 0 ∧ history 0 = s.feeder.startHistory ∧
        (∀ (z : ZoneId) (why : Disposition), s.feeder.expected[z] = true → excluded z = some why →
          record.zones[z] = some ⟨demand z, 0, 0, why⟩) ∧
        (∀ (k : Nat) (z : ZoneId), served[k]? = some z →
          let want := demand z - committed z
          let offered := min want (budget k)
          let gets : Nat → Nat → Disposition → Prop := fun grant taken why =>
            record.zones[z] = some ⟨demand z, committed z, grant, why⟩ ∧ share z = taken ∧
              budget (k + 1) = budget k - taken
          let keeps := history (k + 1) = history k ∧ deferred (k + 1) = deferred k
          let mayStart : Bool :=
            ((history k).getLast?.all fun newest => decide (400 ≤ now - newest)) &&
              decide (((history k).filter fun x => decide (now - x < 5000)).length < 4)
          if commits z then
            gets (committed z + offered) offered (if offered = 0 then .committed else .granted) ∧ keeps
          else if want = 0 then gets 0 0 .noDemand ∧ keeps
          else if offered < s.zones[z].map.minKW then gets 0 0 .belowMin ∧ keeps
          else if running z then gets offered offered .granted ∧ keeps
          else if mayStart = true then
            gets offered offered .granted ∧ deferred (k + 1) = deferred k ∧
              history (k + 1) =
                (if (history k).length < 4 then history k else (history k).tail) ++ [now]
          else gets 0 0 .deferred ∧ history (k + 1) = history k ∧
            deferred (k + 1) = deferred k + 1) ∧
        record.budgetLeft = budget served.length ∧ t.feeder.startHistory = history served.length ∧
        t.feeder.deferredStarts = min 65535 (s.feeder.deferredStarts + deferred served.length) ∧
        ∀ l : Level, t.feeder.pointers[l] =
          ((order l).find? fun z => decide (0 < share z)).getD s.feeder.pointers[l]) ∧
      (¬ idle → ∀ l : Level, t.feeder.pointers[l] = s.feeder.pointers[l] ∨
        s.zones[t.feeder.pointers[l]].map.level = l ∧
          (record.zones[t.feeder.pointers[l]].map fun e => e.disposition) = some .granted) ∧
      UnchangedBut [.feeder, .mail] s t

/-- R116: in RUN, HOLD and DRAIN, with the expected zones' minimums within the feeder limit (the guard
of R117 and R118), limit minus budget_left equals the sum of the grants. -/
def Obligations.GrantsFillTheBudget : Prop :=
  ∀ (s : State) (record : Settlement),
    s.line.mode = .run ∨ s.line.mode = .hold ∨ s.line.mode = .drain →
    (((List.finRange 12).filter fun z => s.feeder.expected[z]).map fun z =>
      s.zones[z].map.minKW).sum ≤ s.feeder.feederLimit →
    s.arbitrate.feeder.settlement = some record →
    ((List.finRange 12).map fun z =>
      ((record.zones[z]).map fun e => e.grant).getD 0).sum + record.budgetLeft = record.limit

/-- R109, R111, R112: an arbitration starts at most one OFF zone, and only when the start history
allows it: its newest entry lies 400 ms back or more, and fewer than four entries lie less than 5000
ms back. The start is entered with the arbitration's count; without a start the history stays. -/
def Obligations.OneEligibleStartPerRound : Prop :=
  ∀ s : State, s.line.mode = .run ∨ s.line.mode = .hold ∨ s.line.mode = .drain →
    (∀ z : ZoneId, s.zones[z].map.InRange) →
    let now := s.clock.count
    let t := s.arbitrate
    let starts : ZoneId → Prop := fun z => s.zones[z].state = .off ∧
      ∃ record : Settlement, t.feeder.settlement = some record ∧
        ∃ e : ZoneSettlement, record.zones[z] = some e ∧ 0 < e.grant
    (∀ y z : ZoneId, starts y → starts z → y = z) ∧
      (∀ z : ZoneId, starts z →
        (∀ newest : Nat, s.feeder.startHistory.getLast? = some newest → 400 ≤ now - newest) ∧
          (s.feeder.startHistory.filter fun x => decide (now - x < 5000)).length < 4 ∧
          t.feeder.startHistory =
            (if s.feeder.startHistory.length < 4 then s.feeder.startHistory
              else s.feeder.startHistory.tail) ++ [now]) ∧
      ((∀ z : ZoneId, ¬ starts z) → t.feeder.startHistory = s.feeder.startHistory)

/-- R105, R106, R108, R113: a grant is 0 or lies from min_kW to max_kW; a zone excluded by its
state, by a pending band past MIN_ON, or by the forced stop of an overdue pointed zone is granted 0;
and in RUN, HOLD and DRAIN a running zone that has not met MIN_ON and is not excluded holds at least
its minimum. -/
def Obligations.GrantsStayWithinLimits : Prop :=
  ∀ (s : State) (record : Settlement) (z : ZoneId) (e : ZoneSettlement),
    s.zones[z].map.InRange →
    (s.feeder.demands[z].getD 0 = 0 ∨ s.zones[z].map.minKW ≤ s.feeder.demands[z].getD 0 ∧
      s.feeder.demands[z].getD 0 ≤ s.zones[z].map.maxKW) →
    s.arbitrate.feeder.settlement = some record → record.zones[z] = some e →
    let met := s.zones[z].state = .on ∧
      ∃ since : Nat, s.zones[z].onSince = some since ∧ 2000 ≤ s.clock.count - since
    (e.grant = 0 ∨ s.zones[z].map.minKW ≤ e.grant ∧ e.grant ≤ s.zones[z].map.maxKW) ∧
      (s.zones[z].state = .stopping ∨ s.zones[z].state = .tuning ∨ s.zones[z].state = .faulted →
        e.grant = 0) ∧
      (met → s.zones[z].pendingBand ≠ none → e.grant = 0) ∧
      (s.tuner.pointer = some z → s.tuner.window ≤ s.zones[z].tuningAge →
        s.zones[z].state = .off ∨ met → e.grant = 0) ∧
      (s.line.mode = .run ∨ s.line.mode = .hold ∨ s.line.mode = .drain →
        (s.zones[z].state = .starting ∨ s.zones[z].state = .on ∧
          ∀ since : Nat, s.zones[z].onSince = some since → s.clock.count - since < 2000) →
        s.zones[z].map.minKW ≤ e.grant)

/-! ## Coil tuning (spec/07) -/

/-- R129 and R130: TUNE_ALL's checks in their order, and the record and the first order of an
accepted one. A round notice (R125) orders a regular tuning of the pointed zone exactly when every
condition of the rule holds. Which message of the channel is taken, the oldest, is the model's
choice (log entry 1), and that a refused TUNE_ALL carries no data is log entry 22. -/
def Obligations.TuneOrdersSent : Prop :=
  (∀ (s : State) (c : Nat), s.Taking c →
    let refused : Status → Prop := fun status =>
      exec (.tuneAll c) s = .next (s.answered c { status := status, payload := .none })
    let enabled := (List.finRange 12).filter fun z => s.zones[z].map.enabled
    if s.line.mode ≠ .service then refused .wrongMode
    else if s.tuner.allState = .running then refused .busy
    else if s.tuner.regularZone ≠ none then refused .busy
    else if enabled = [] then refused .notConfigured
    else if ∃ z : ZoneId, s.zones[z].map.enabled = true ∧ s.zones[z].state ≠ .off then refused .busy
    else ∀ (first : ZoneId) (rest : List ZoneId), enabled = first :: rest →
      exec (.tuneAll c) s = .next { s with
        tuner := { s.tuner with
          allState := .running
          allList := (first, .inProgress) :: rest.map fun z => (z, .waiting) }
        mail := { s.mail with orders := s.mail.orders ++ [first] }
        link := s.link.answered c { status := .ok, payload := .zones enabled } }) ∧
  ∀ (s : State) (m : NoticeMessage) (rest : List NoticeMessage), s.restart.hold = none →
    s.mail.notices = m :: rest →
    let due : ZoneId → Prop := fun z => s.tuner.pointer = some z ∧
      (s.line.mode = .run ∨ s.line.mode = .hold) ∧ s.tuner.regularZone = none ∧
      s.tuner.allState ≠ .running ∧ m.grants[z] = some 0 ∧ s.zones[z].state = .off
    (∀ z : ZoneId, due z → exec .roundNotice s = .next { s with
      tuner := { s.tuner with regularZone := some z }
      mail := { s.mail with notices := rest, orders := s.mail.orders ++ [z] } }) ∧
    ((∀ z : ZoneId, ¬ due z) → exec .roundNotice s = .next { s with
      mail := { s.mail with notices := rest } })

/-- R127 and R130, R121: an outcome of the awaited regular zone ends it and advances the pointer
after a success or a failure; an outcome of the zone in progress of a running tune-all writes its
result and orders the next zone or ends the pass; any other outcome is discarded. Which message of
the channel is taken, the oldest, is the model's choice (log entry 1). -/
def Obligations.OutcomeEndsItsTuning : Prop :=
  ∀ (s : State) (z : ZoneId) (o : TuneOutcome) (before after : List (ZoneId × TuneOutcome)),
    s.restart.hold = none → s.mail.outcomes = before ++ (z, o) :: after →
    (∀ m ∈ before, m.1 ≠ z) →
    let taken := { s with mail := { s.mail with outcomes := before ++ after } }
    let enabled : ZoneId → Bool := fun y => s.zones[y].map.enabled
    (s.tuner.regularZone = some z → exec (.tuneOutcome z) s = .next { taken with
      tuner := { s.tuner with
        regularZone := none
        pointer :=
          if (o = .succeeded ∨ o = .failed) ∧ s.tuner.pointer = some z then
            ((List.range 12).map fun k => Fin.ofNat 12 (z.val + 1 + k)).find? enabled
          else s.tuner.pointer } }) ∧
    (s.tuner.regularZone ≠ some z → s.tuner.allState = .running →
      ∀ (done waiting : List (ZoneId × TuneResult)) (result : TuneResult),
        s.tuner.allList = done ++ (z, .inProgress) :: waiting →
        (∀ x ∈ done ++ waiting, x.1 ≠ z) →
        (∀ x ∈ done, x.2 ≠ .inProgress ∧ x.2 ≠ .waiting) → (∀ x ∈ waiting, x.2 = .waiting) →
        (s.tuner.allList.map Prod.fst).Nodup →
        (o = .succeeded ∧ result = .tuned ∨ o = .failed ∧ result = .failed ∨
          o = .refused ∧ result = .skipped) →
        exec (.tuneOutcome z) s = .next (
          match waiting with
          | [] => { taken with tuner := { s.tuner with
              allState := .done, allList := done ++ [(z, result)]
              pointer := (List.finRange 12).find? enabled } }
          | (y, _) :: later => { taken with
              tuner := { s.tuner with
                allList := done ++ (z, result) :: (y, .inProgress) :: later }
              mail := { s.mail with
                outcomes := before ++ after, orders := s.mail.orders ++ [y] } })) ∧
    (s.tuner.regularZone ≠ some z →
      (s.tuner.allState ≠ .running ∨ (z, TuneResult.inProgress) ∉ s.tuner.allList) →
      exec (.tuneOutcome z) s = .next taken)

/-! ## The exit station (spec/08) -/

/-- R134 and R135: a reading outside MEASURING is discarded and counted; in MEASURING an invalid one
(by its mark, or above 16000) is counted and a valid one listed; the 8th valid one closes the window
as the window timer's expiry at the same count would; and the measured value is the plain mean of 1
to 3 readings, and of 4 to 8 the mean without one lowest and one highest. -/
def Obligations.ReadingsListedAndAveraged : Prop :=
  (∀ (s : State) (value : Nat) (valid : Bool), s.restart.hold = none →
    (s.exit.state ≠ .measuring → exec (.pyrometerReading value valid) s = .next { s with
      exit := { s.exit with
        readingsDiscarded := min 65535 (s.exit.readingsDiscarded + 1) } }) ∧
    (s.exit.state = .measuring → valid = false ∨ 16000 < value →
      exec (.pyrometerReading value valid) s = .next { s with
        exit := { s.exit with readingsInvalid := min 65535 (s.exit.readingsInvalid + 1) } }) ∧
    (s.exit.state = .measuring → valid = true → value ≤ 16000 → s.exit.readings.length < 7 →
      exec (.pyrometerReading value valid) s = .next { s with
        exit := { s.exit with readings := s.exit.readings ++ [value] } }) ∧
    (s.exit.state = .measuring → valid = true → value ≤ 16000 → s.exit.readings.length = 7 →
      TagsDistinct s → s.clock.count ≤ 281474976710655 → (∀ z : ZoneId, s.zones[z].qOn ≤ 20) →
      ∀ r ∈ s.pool.records, s.exit.slot = some r.tag →
        exec (.pyrometerReading value valid) s = exec .measurementWindowExpiry { s with
          exit := { s.exit with
            readings := s.exit.readings ++ [value], windowTimer := some s.clock.count } })) ∧
  ∀ readings : List Nat,
    (readings = [] → measuredValue readings = none) ∧
    (1 ≤ readings.length → readings.length ≤ 3 →
      measuredValue readings = some (readings.sum / readings.length)) ∧
    (4 ≤ readings.length → ∀ low high : Nat, low ∈ readings → high ∈ readings →
      (∀ x ∈ readings, low ≤ x ∧ x ≤ high) →
      measuredValue readings =
        some (((readings.erase low).erase high).sum / (readings.length - 2)))

/-- R135 to R137, R141: the close of the measurement window at its timer's due time. The record is
corrected to the measured value, an adaptation update goes out in RUN for an empty flag set, and the
billet is sent to the chute with the first verdict that holds or becomes READY (and is handed to the
press when a take is pending and it has not cooled below the window). That an expiry first lets time
reach its due count is log entry 3. -/
def Obligations.WindowCloseDecides : Prop :=
  ∀ (s : State) (due : Nat) (r : BilletRecord), s.restart.hold = none → TagsDistinct s →
    s.exit.state = .measuring → s.exit.windowTimer = some due → s.exit.slot = some r.tag →
    r ∈ s.pool.records →
    let u := s.reach due
    let f := s.recipes[r.recipe].fields
    let flagged := r.flags.marked || r.flags.overheat || r.flags.soakExceeded || r.flags.stale
    let low := (f.exitTarget : Int) + r.targetOffset - f.tolLow
    let high := (f.exitTarget : Int) + r.targetOffset + f.tolHigh
    let withRecord : BilletRecord → List BilletRecord := fun r' =>
      s.pool.records.map fun x => if x.tag = r.tag then r' else x
    let rejecting : ExitStation := { s.exit with
      state := .rejecting, waitRounds := none, windowTimer := none
      transferTimer := some (u.clock.count + s.line.transferTimeout) }
    let chute : LineLink := { s.link with flags := s.link.flags ||| 2 }
    (s.exit.readings = [] → exec .measurementWindowExpiry s = .next { u with
      pool := { s.pool with records := withRecord { r with outcome := some .noReading } }
      exit := rejecting, link := chute }) ∧
    ∀ measured : Nat, measuredValue s.exit.readings = some measured → measured ≤ 16000 →
      let diff := (measured : Int) - r.ts
      let r' : BilletRecord := { r with
        measured := some measured, ts := measured
        tc := (max 0 (min 16000 ((r.tc : Int) + diff))).toNat }
      let mail : Mail := { s.mail with
        updates := s.mail.updates ++
          if s.line.mode = .run ∧ flagged = false then [(r.recipe, diff)] else [] }
      let rejects : BilletOutcome → State := fun outcome => { u with
        pool := { s.pool with records := withRecord { r' with outcome := some outcome } }
        exit := rejecting, link := chute, mail := mail }
      exec .measurementWindowExpiry s = .next (
        if flagged = true then rejects .rejectedFlagged
        else if (measured : Int) < low then rejects .rejectedCold
        else if high < (measured : Int) then rejects .rejectedHot
        else { u with
          pool := { s.pool with records := withRecord r' }
          mail := mail
          exit :=
            if s.exit.pendingTakes = 0 then
              { s.exit with state := .ready, waitRounds := some 0, windowTimer := none }
            else
              { s.exit with
                state := .toPress, waitRounds := none, windowTimer := none
                pendingTakes := s.exit.pendingTakes - 1
                transferTimer := some (u.clock.count + s.line.transferTimeout) } })

/-- R138 and R139: a step notice for the READY billet raises wait_rounds and rejects a flagged,
cooled or waited-out billet; a mark notice rejects it at once; in any other state, or for a record
not in the slot, neither changes the station. Which message of the channel is taken, the oldest, is
the model's choice (log entry 1). -/
def Obligations.NoticesJudgeTheReadyBillet : Prop :=
  ∀ (s : State) (ref : RecordRef) (rest : List RecordRef), s.restart.hold = none → TagsDistinct s →
    let steps := { s with mail := { s.mail with steps := rest } }
    let marks := { s with mail := { s.mail with marks := rest } }
    (s.exit.state ≠ .ready ∨ s.exit.slot ≠ some ref.tag ∨
        (∀ r ∈ s.pool.records, r.tag = ref.tag → r.loadSeq ≠ ref.loadSeq) →
      (s.mail.steps = ref :: rest → exec .stepNotice s = .next steps) ∧
      (s.mail.marks = ref :: rest → exec .markNotice s = .next marks)) ∧
    ∀ r ∈ s.pool.records, r.tag = ref.tag → r.loadSeq = ref.loadSeq → s.exit.state = .ready →
      s.exit.slot = some ref.tag →
      let f := s.recipes[r.recipe].fields
      let waited := min 65535 (s.exit.waitRounds.getD 0 + 1)
      let reject : State → BilletOutcome → State := fun v outcome => { v with
        pool := { s.pool with
          records := s.pool.records.map fun x =>
            if x.tag = r.tag then { r with outcome := some outcome } else x }
        exit := { s.exit with
          state := .rejecting, waitRounds := none, windowTimer := none
          transferTimer := some (s.clock.count + s.line.transferTimeout) }
        link := { s.link with flags := s.link.flags ||| 2 } }
      (s.mail.steps = ref :: rest → exec .stepNotice s = .next (
        if r.flags.marked = true ∨ r.flags.overheat = true ∨ r.flags.soakExceeded = true ∨
            r.flags.stale = true then reject steps .rejectedFlagged
        else if (r.ts : Int) < f.exitTarget + r.targetOffset - f.tolLow then
          reject steps .rejectedCooled
        else if f.maxWait ≠ 0 ∧ f.maxWait ≤ waited then reject steps .rejectedCooled
        else { steps with exit := { s.exit with waitRounds := some waited } })) ∧
      (s.mail.marks = ref :: rest →
        exec .markNotice s = .next (reject marks .rejectedFlagged))

/-- R140 and R141: a TAKE edge is kept, up to two, or counted as an overflow; in READY it hands the
billet to the press, unless a flag or the cooling check sends it to the chute and leaves the take
pending. -/
def Obligations.TakeHandsTheBilletOver : Prop :=
  ∀ (s : State) (e : Transition), s.restart.hold = none → TagsDistinct s →
    let pins := { s.pins with take := decide (e = .rising) }
    let takes := min 2 (s.exit.pendingTakes + 1)
    let counted : ExitStation := { s.exit with
      pendingTakes := takes
      takeOverflows :=
        if s.exit.pendingTakes < 2 then s.exit.takeOverflows
        else min 65535 (s.exit.takeOverflows + 1) }
    (s.link.edges.take.counts e = false →
      exec (.takeEdge e) s = .next { s with pins := pins }) ∧
    (s.link.edges.take.counts e = true → s.exit.pendingTakes ≤ 2 → s.exit.state ≠ .ready →
      exec (.takeEdge e) s = .next { s with pins := pins, exit := counted }) ∧
    ∀ r ∈ s.pool.records, s.link.edges.take.counts e = true → s.exit.pendingTakes ≤ 2 →
      s.exit.state = .ready → s.exit.slot = some r.tag →
      let f := s.recipes[r.recipe].fields
      let flagged := r.flags.marked = true ∨ r.flags.overheat = true ∨
        r.flags.soakExceeded = true ∨ r.flags.stale = true
      let cooled := (r.ts : Int) < f.exitTarget + r.targetOffset - f.tolLow
      let verdict : BilletOutcome := if flagged then .rejectedFlagged else .rejectedCooled
      exec (.takeEdge e) s = .next (
        if flagged ∨ cooled then { s with
          pins := pins
          pool := { s.pool with
            records := s.pool.records.map fun x =>
              if x.tag = r.tag then { r with outcome := some verdict } else x }
          exit := { counted with
            state := .rejecting, waitRounds := none, windowTimer := none
            transferTimer := some (s.clock.count + s.line.transferTimeout) }
          link := { s.link with flags := s.link.flags ||| 2 } }
        else { s with
          pins := pins
          exit := { counted with
            state := .toPress, waitRounds := none, pendingTakes := takes - 1
            transferTimer := some (s.clock.count + s.line.transferTimeout) } })

/-- R142 to R145, R19, R154: a done edge of its own transfer, or the transfer timer at its due time,
retires the billet with the outcome the rules name and empties the exit; in DRAIN an empty line is
then STOPPED; a done edge that finds no transfer of its kind is stray and only counted. That an
expiry first lets time reach its due count is log entry 3. -/
def Obligations.TransfersEndInRetirement : Prop :=
  ∀ (s : State) (e : Transition), s.restart.hold = none → TagsDistinct s →
    let pressed := { s with pins := { s.pins with pressDone := decide (e = .rising) } }
    let chuted := { s with pins := { s.pins with chuteDone := decide (e = .rising) } }
    let ended : State → BilletRecord → BilletOutcome → State := fun v r outcome => { v with
      pool := { s.pool with
        records := s.pool.records.filter fun x => x.tag != r.tag
        lastRetired := some { r with outcome := some outcome }
        outcomes := s.pool.outcomes.set outcome.counter
          (min 65535 (s.pool.outcomes[outcome.counter] + 1)) }
      recipes := s.recipes.set r.recipe
        { s.recipes[r.recipe] with users := s.recipes[r.recipe].users - 1 }
      exit := { s.exit with
        slot := none, state := .empty, waitRounds := none, windowTimer := none
        transferTimer := none }
      link := { s.link with flags := s.link.flags ||| 1 }
      line :=
        if s.line.mode = .drain ∧ ∀ p : Fin 40, s.row.positions[p] = none then
          { s.line with mode := .stopped, autoHold := none } else s.line }
    (s.link.edges.pressDone.counts e = false → exec (.pressDoneEdge e) s = .next pressed) ∧
    (s.link.edges.chuteDone.counts e = false → exec (.chuteDoneEdge e) s = .next chuted) ∧
    (s.link.edges.pressDone.counts e = true → s.exit.state ≠ .toPress →
      exec (.pressDoneEdge e) s = .next { pressed with exit := { s.exit with
        strayPressDone := min 65535 (s.exit.strayPressDone + 1) } }) ∧
    (s.link.edges.chuteDone.counts e = true → s.exit.state ≠ .rejecting →
      exec (.chuteDoneEdge e) s = .next { chuted with exit := { s.exit with
        strayChuteDone := min 65535 (s.exit.strayChuteDone + 1) } }) ∧
    ∀ r ∈ s.pool.records, s.exit.slot = some r.tag →
      (s.link.edges.pressDone.counts e = true → s.exit.state = .toPress →
        exec (.pressDoneEdge e) s = .next (ended pressed r .forged)) ∧
      (∀ decided : BilletOutcome, s.link.edges.chuteDone.counts e = true →
        s.exit.state = .rejecting → r.outcome = some decided →
        exec (.chuteDoneEdge e) s = .next (ended chuted r decided)) ∧
      ∀ due : Nat, s.exit.transferTimer = some due →
        s.exit.state = .toPress ∨ s.exit.state = .rejecting →
        exec .transferTimerExpiry s = .next (ended (s.reach due) r .transferLost)

/-! ## Line modes (spec/09) -/

/-- R151 to R154, R160, R122 (with R149, R150, R155): the MODE actions START, HOLD, RESUME, DRAIN,
SERVICE and LEAVE_SERVICE in every mode: the transition with its entry actions where the action is
accepted, the refusal and its status elsewhere; every response carries mode and causes as they stand
after the event. A MODE request whose action byte names no action is refused with BAD_VALUE (log
entry 8). That DRAIN from RUN leaves a stopped auto-hold timer stopped is log entry 24. -/
def Obligations.ModeActionsMoveTheLine : Prop :=
  ∀ (s : State) (c : Nat), s.Taking c →
    let mode := s.line.mode
    let carries : Status → LineSequencer → Response := fun status l =>
      { status := status, payload := .mode l.mode l.tripCause l.holdCause }
    let answers : Instr → State → Status → Prop := fun i t status =>
      exec i s = .next { t with
        link := { s.link.answered c (carries status t.line) with flags := t.link.flags } }
    let timed : LineSequencer → LineSequencer := fun l =>
      if l.autoHold = none ∧ s.pins.pressReady = false ∧ l.holdDelay ≠ 0 then
        { l with autoHold := some (s.clock.count + l.holdDelay) } else l
    let running : State := { s with
      line := timed { s.line with mode := .run }
      row := { s.row with cadenceCount := none, cadenceHistory := [] } }
    let stopped : State := { s with line := { s.line with mode := .stopped, autoHold := none } }
    let configured := ∃ z : ZoneId, s.zones[z].map.enabled = true
    (∀ b : Nat, answers (.modeStart c (some b)) s .badValue) ∧
    (mode ≠ .stopped → answers (.modeStart c none) s .wrongMode) ∧
    (mode = .stopped → s.feeder.feederLimit = 0 ∨ ¬ configured →
      answers (.modeStart c none) s .notConfigured) ∧
    (mode = .stopped → s.feeder.feederLimit ≠ 0 → configured → s.line.faultLatch = true →
      answers (.modeStart c none) s .faultLatched) ∧
    (mode = .stopped → s.feeder.feederLimit ≠ 0 → configured → s.line.faultLatch = false →
      answers (.modeStart c none) running .ok) ∧
    (mode = .run ∨ mode = .drain → answers (.modeHold c) { s with
      line := { s.line with mode := .hold, holdCause := some .request, autoHold := none }
      link := { s.link with flags := s.link.flags ||| 16 } } .ok) ∧
    (¬ (mode = .run ∨ mode = .drain) → answers (.modeHold c) s .wrongMode) ∧
    (mode = .hold ∨ mode = .drain → answers (.modeResume c) running .ok) ∧
    (¬ (mode = .hold ∨ mode = .drain) → answers (.modeResume c) s .wrongMode) ∧
    (mode = .run ∨ mode = .hold → s.Cleared → answers (.modeDrain c) stopped .ok) ∧
    (mode = .run → ¬ s.Cleared →
      answers (.modeDrain c) { s with line := { s.line with mode := .drain } } .ok) ∧
    (mode = .hold → ¬ s.Cleared →
      answers (.modeDrain c) { s with line := timed { s.line with mode := .drain } } .ok) ∧
    (¬ (mode = .run ∨ mode = .hold) → answers (.modeDrain c) s .wrongMode) ∧
    (mode = .stopped →
      answers (.modeService c) { s with line := { s.line with mode := .service } } .ok) ∧
    (mode ≠ .stopped → answers (.modeService c) s .wrongMode) ∧
    (mode ≠ .service → answers (.modeLeaveService c) s .wrongMode) ∧
    (mode = .service → s.tuner.allState = .running → answers (.modeLeaveService c) s .busy) ∧
    (mode = .service → s.tuner.allState ≠ .running → answers (.modeLeaveService c) { stopped with
      tuner := { s.tuner with
        pointer := (List.finRange 12).find? fun z => s.zones[z].map.enabled } } .ok)

/-- R158, R159, R98 (with R150): MODE TRIP takes RUN, HOLD and DRAIN to TRIPPED with its stop-all;
MODE CLEAR_TRIP takes TRIPPED to HOLD with a record in the row or at the exit and to STOPPED
without, clears the fault latch, and is refused while FEEDER_FAULT is active; both are refused in
other modes. -/
def Obligations.TripAndClearTrip : Prop :=
  ∀ (s : State) (c : Nat), s.Taking c →
    let mode := s.line.mode
    let carries : Status → LineSequencer → Response := fun status l =>
      { status := status, payload := .mode l.mode l.tripCause l.holdCause }
    let clears : LineSequencer → BitVec 10 → Prop := fun l flags =>
      exec (.modeClearTrip c) s = .next { s with
        line := l
        link := { s.link.answered c (carries .ok l) with flags := flags } }
    (mode = .run ∨ mode = .hold ∨ mode = .drain → ∃ t : State,
      exec (.modeTrip c) s = .next t ∧ StopAllTaken s t ∧
        t.line = { s.line with
          mode := .tripped, tripCause := some .request, autoHold := none } ∧
        t.link = { s.link.answered c (carries .ok t.line) with flags := s.link.flags ||| 8 } ∧
        UnchangedBut [.zones, .sent, .mail, .line, .link] s t) ∧
    (mode = .stopped ∨ mode = .service ∨ mode = .tripped →
      exec (.modeTrip c) s = .next (s.answered c (carries .wrongMode s.line))) ∧
    (mode ≠ .tripped →
      exec (.modeClearTrip c) s = .next (s.answered c (carries .wrongMode s.line))) ∧
    (mode = .tripped → s.pins.feederFault = true →
      exec (.modeClearTrip c) s = .next (s.answered c (carries .faultLatched s.line))) ∧
    (mode = .tripped → s.pins.feederFault = false → s.Cleared →
      clears { s.line with mode := .stopped, faultLatch := false, autoHold := none }
        s.link.flags) ∧
    (mode = .tripped → s.pins.feederFault = false → ¬ s.Cleared →
      clears { s.line with
        mode := .hold, holdCause := some .afterTrip, faultLatch := false, autoHold := none }
        (s.link.flags ||| 16))

/-- R149: the line mode changes only by the events of its table, from the modes they name and to the
modes they name; at a controller restart it becomes TRIPPED, and power-on reset leaves STOPPED or,
with CTRL_RESET asserted, TRIPPED. A stroke end and the ends of a transfer change it only by a
push-off or by drain completion. -/
def Obligations.LineModeFollowsTheTable : Prop :=
  ∀ (i : Instr) (s t : State), exec i s = .next t → t.line.mode ≠ s.line.mode →
    let source := s.line.mode
    let target := t.line.mode
    let pushing := source = .run ∨ source = .drain
    let production := source = .run ∨ source = .hold ∨ source = .drain
    let drained := source = .drain ∧ target = .stopped
    match i with
    | .powerOnReset .held => False
    | .powerOnReset (.released levels) => target = if levels.ctrlReset then .tripped else .stopped
    | .ctrlResetAsserted => target = .tripped
    | .restart _ => target = .tripped
    | .restartRelease _ => drained
    | .modeStart _ action => action = none ∧ source = .stopped ∧ target = .run
    | .modeHold _ => pushing ∧ target = .hold ∧ t.line.holdCause = some .request
    | .modeResume _ => (source = .hold ∨ source = .drain) ∧ target = .run
    | .modeDrain _ => (source = .run ∨ source = .hold) ∧ (target = .drain ∨ target = .stopped ∧ s.Cleared)
    | .modeTrip _ => production ∧ target = .tripped ∧ t.line.tripCause = some .request
    | .modeClearTrip _ => source = .tripped ∧
        (target = .hold ∧ t.line.holdCause = some .afterTrip ∧ ¬ s.Cleared ∨
          target = .stopped ∧ s.Cleared)
    | .modeService _ => source = .stopped ∧ target = .service
    | .modeLeaveService _ => source = .service ∧ target = .stopped
    | .strokeEnd _ => drained ∨ pushing ∧ target = .hold ∧ t.line.holdCause = some .pushOff
    | .strokeTimerExpiry => pushing ∧ target = .hold ∧ t.line.holdCause = some .strokeTimeout
    | .autoHoldExpiry => pushing ∧ target = .hold ∧ t.line.holdCause = some .pressNotReady
    | .feederFaultChange active =>
        active = true ∧ production ∧ target = .tripped ∧ t.line.tripCause = some .feeder
    | .pressDoneEdge _ => drained
    | .chuteDoneEdge _ => drained
    | .transferTimerExpiry => drained
    | _ => False

/-- R162, R117, R123, R124, section 11.3: SET_LINE stores each present part clamped into its range,
leaves each absent parameter, tests the overdue set, and is refused whole by an unnamed part or by
the configuration guard. That a refusal carries no parameters is log entry 22, and that an accepted
one carries the tuning window in rounds is log entry 19. -/
def Obligations.SetLineStoresOrRefuses : Prop :=
  ∀ (s : State) (c parts : Nat) (f : LineFields), s.Taking c →
    let part : Nat → Nat → Nat → Nat := fun k new old => if parts.testBit k then new else old
    let p : LineParameters :=
      { feederLimit := part 0 (max 50 (min 6000 f.feederLimit)) s.feeder.feederLimit
        nominalCadence := part 1 (max 1 (min 3000 f.nominalCadence)) s.line.nominalCadence
        queueLow := part 2 (min 8 f.queueLow) s.line.queueLow
        tAmb := part 3 (min 600 f.tAmb) s.line.tAmb
        holdDelay := part 4 (min 60000 f.holdDelay) s.line.holdDelay
        transferTimeout := part 5 (max 1000 (min 10000 f.transferTimeout)) s.line.transferTimeout
        tuningWindow := part 6 (max 60 (min 3600 f.tuningWindow) * 5) s.tuner.window }
    let minimums := (((List.finRange 12).filter fun z => s.zones[z].map.enabled).map fun z =>
      s.zones[z].map.minKW).sum
    let becomesOverdue := ∃ z : ZoneId, s.zones[z].map.enabled = true ∧
      s.zones[z].tuningAge < s.tuner.window ∧ p.tuningWindow ≤ s.zones[z].tuningAge
    exec (.setLine c parts f) s = .next (
      if 127 < parts ∨ parts.testBit 0 = true ∧ p.feederLimit < minimums then
        s.answered c { status := .badValue, payload := .none }
      else { s with
        feeder := { s.feeder with feederLimit := p.feederLimit }
        tuner := { s.tuner with window := p.tuningWindow }
        line := { s.line with
          nominalCadence := p.nominalCadence, queueLow := p.queueLow, tAmb := p.tAmb
          holdDelay := p.holdDelay, transferTimeout := p.transferTimeout }
        link := { s.link.answered c { status := .ok, payload := .parameters p } with
          flags := if becomesOverdue then s.link.flags ||| 128 else s.link.flags } })

/-- R155 and R157 (with R150): PRESS_READY stops or starts the auto-hold timer, whose expiry at its
due time takes RUN and DRAIN to HOLD; FEEDER_FAULT becoming active sets the latch and trips a
producing line, and becoming inactive clears the latch in STOPPED and SERVICE. That an expiry first
lets time reach its due count is log entry 3. -/
def Obligations.LevelInputsActOnTheLine : Prop :=
  ∀ s : State, s.restart.hold = none →
    let pushing := s.line.mode = .run ∨ s.line.mode = .drain
    let production := s.line.mode = .run ∨ s.line.mode = .hold ∨ s.line.mode = .drain
    let faulted : Bool → Levels := fun active => { s.pins with feederFault := active }
    (exec (.pressReadyChange true) s = .next { s with
      pins := { s.pins with pressReady := true }
      line := { s.line with autoHold := none } }) ∧
    (exec (.pressReadyChange false) s = .next { s with
      pins := { s.pins with pressReady := false }
      line :=
        if pushing ∧ s.line.autoHold = none ∧ s.line.holdDelay ≠ 0 then
          { s.line with autoHold := some (s.clock.count + s.line.holdDelay) } else s.line }) ∧
    (∀ due : Nat, s.line.autoHold = some due → pushing →
      exec .autoHoldExpiry s = .next { s.reach due with
        line := { s.line with mode := .hold, holdCause := some .pressNotReady, autoHold := none }
        link := { s.link with flags := s.link.flags ||| 16 } }) ∧
    (¬ production → exec (.feederFaultChange true) s = .next { s with
      pins := faulted true, line := { s.line with faultLatch := true } }) ∧
    (production → ∃ t : State, exec (.feederFaultChange true) s = .next t ∧ StopAllTaken s t ∧
      t.line = { s.line with
        mode := .tripped, tripCause := some .feeder, autoHold := none, faultLatch := true } ∧
      t.link = { s.link with flags := s.link.flags ||| 8 } ∧ t.pins = faulted true ∧
      UnchangedBut [.zones, .sent, .mail, .line, .link, .pins] s t) ∧
    exec (.feederFaultChange false) s = .next { s with
      pins := faulted false
      line :=
        if s.line.mode = .stopped ∨ s.line.mode = .service then
          { s.line with faultLatch := false } else s.line }

/-! ## Controller restart and the time base (spec/10) -/

/-- R165, R166 (with R22, R7, R77, R78, R83, R95, R120, R131, R147, R163, R164, R171, R178, R181):
every block's power-on values, from whatever state stood before, with the input levels read at the
release; with CTRL_RESET asserted a controller restart begins at once. Before the release power-on
reset holds the part, whatever held it before; the row's command that begins this interval is log
entry 14. `State.reset` is that state with every input inactive (the model's choice of levels, log
entry 2). -/
def Obligations.PowerOnResetLeaves : Prop :=
  let recipe : Recipe :=
    { valid := false, bias := 0, adaptCount := 0, users := 0
      fields :=
        { cp := 200, sLow := 500, sHigh := 500, equalization := 0, loss := 0
          zoneTarget := Vector.replicate 12 0, holdTemp := 0, exitTarget := 0, tolLow := 0
          tolHigh := 0, tsMax := 0, gradMax := 0, maxSoak := 0, maxWait := 0, adaptGain := 0 } }
  let zone : ZoneChannel :=
    { map := { firstPos := 0, lastPos := 0, maxKW := 10, minKW := 5, level := 0, enabled := false }
      state := .off, timer := none, band := .low, pendingBand := none, grantInForce := 0
      meteredGrant := 0, meteredBand := .low, nextGrant := none, onSince := none, qOn := 0
      eff := 800, tuningAge := 65535, lastReport := none, faultCause := none, inverterCode := none
      starts := 0, faults := 0, grantsDiscarded := 0, strayReports := 0, idleEnergy := 0 }
  let leaves : Levels → List Instr → State := fun levels pending =>
    { pending := pending, clock := { count := 0, lastBoundary := 0 }
      pool := ⟨[], [], 0, none, Vector.replicate 10 0⟩
      recipes := Vector.replicate 16 recipe
      row := ⟨Vector.replicate 40 none, 24, .idle, none, 0, 0, 0, none, []⟩
      zones := Vector.replicate 12 zone
      feeder :=
        { feederLimit := 0, roundStart := 0, collection := .settled, collectionTime := 0
          expected := Vector.replicate 12 false, demands := Vector.replicate 12 none
          pointers := Vector.replicate 4 11, startHistory := [], deferredStarts := 0
          unsettledRounds := 0, settlement := none }
      tuner :=
        { pointer := none, window := 4500, regularZone := none, allState := .none, allList := [] }
      exit := ⟨none, .empty, none, 0, [], none, none, 0, 0, 0, 0, 0⟩
      line :=
        { mode := .stopped, tripCause := none, holdCause := none, autoHold := none
          faultLatch := levels.feederFault, nominalCadence := 60, queueLow := 2, tAmb := 250
          holdDelay := 3000, transferTimeout := 4000 }
      link :=
        { flags := 0, masks := 1023 - 8 - 256, buffer := none, lastShift := none
          edges := ⟨.rising, .rising, .rising, .rising, .rising⟩, lengthErrors := 0
          crcErrors := 0, unknownRequests := 0, responsesLost := 0 }
      restart := { hold := none, count := 0, last := none }
      mail := ⟨[], [], [], [], [], [], [], [], [], []⟩, pins := levels, sent := [] }
  (∀ s : State, exec (.powerOnReset .held) s = .next { s with
    restart := { s.restart with hold := some .powerOn } }) ∧
  (∀ (levels : Levels) (s : State), exec (.powerOnReset (.released levels)) s = .next (
    if levels.ctrlReset then { leaves levels s.pending with
      line := { (leaves levels s.pending).line with mode := .tripped, tripCause := some .restart }
      restart := ⟨some (.restart ⟨.ctrlReset, 0, .stopped⟩), 0, none⟩ }
    else leaves levels s.pending)) ∧
  State.reset = leaves ⟨false, false, false, false, false, false, false, false⟩ []

/-- R166, R168, R98, R77, R147, R131, R163, R167, R182: the entry of a controller restart, by the
assertion of CTRL_RESET or by a RESTART request (which receives no response): every block's part,
and the outputs deasserted through the hold. R69, R132, R178, R165: while nothing holds the part,
PUSH_PERMIT is asserted exactly in RUN or DRAIN with the station EMPTY and the stroke IDLE,
PRESS_LOAD exactly in TO_PRESS, CHUTE_OPEN exactly in REJECTING and ATTENTION exactly while a flag
is set and unmasked; in a hold all four are deasserted. -/
def Obligations.RestartEntryTaken : Prop :=
  (∀ (s : State) (c : Nat), s.Taking c →
    let enters : RestartCause → State → Prop := fun cause t =>
      StopAllTaken s t ∧
      t.line = { s.line with mode := .tripped, tripCause := some .restart, autoHold := none } ∧
      t.row = { s.row with
        stroke := .idle, strokeTimer := none, cadenceCount := none, cadenceHistory := [] } ∧
      t.exit = { s.exit with
        pendingTakes := 0, windowTimer := none, transferTimer := none
        readings := if s.exit.state = .measuring then [] else s.exit.readings } ∧
      t.tuner = (if s.tuner.allState = .running then { s.tuner with
          allState := .done
          regularZone := (s.tuner.allList.find? fun x => decide (x.2 = .inProgress)).map Prod.fst
          allList := s.tuner.allList.map fun x => (x.1,
            if x.2 = .inProgress then .abandoned else if x.2 = .waiting then .notRun else x.2) }
        else s.tuner) ∧
      t.restart = { s.restart with hold := some (.restart ⟨cause, s.clock.count, s.line.mode⟩) } ∧
      t.attention = false ∧ t.pushPermit = false ∧ t.pressLoad = false ∧ t.chuteOpen = false ∧
      UnchangedBut
        [.zones, .sent, .mail, .line, .row, .exit, .tuner, .restart, .link, .pins] s t
    (∃ t : State, exec .ctrlResetAsserted s = .next t ∧ enters .ctrlReset t ∧
      t.pins = { s.pins with ctrlReset := true } ∧
      t.link = { s.link with buffer := none, flags := 0 }) ∧
    ∃ t : State, exec (.restart c) s = .next t ∧ enters .request t ∧ t.pins = s.pins ∧
      t.link = { s.link with
        buffer := none, flags := 0, lastShift := some ⟨s.link.buffer, c⟩ }) ∧
  ∀ s : State,
    (s.restart.hold = none →
      (s.pushPermit = true ↔ (s.line.mode = .run ∨ s.line.mode = .drain) ∧ s.exit.state = .empty ∧
        s.row.stroke = .idle) ∧
      (s.pressLoad = true ↔ s.exit.state = .toPress) ∧
      (s.chuteOpen = true ↔ s.exit.state = .rejecting) ∧
      (s.attention = true ↔ ∃ k : Fin 10,
        s.link.flags.getLsbD k.val = true ∧ s.link.masks.getLsbD k.val = false)) ∧
    (s.restart.hold.isSome = true → s.pushPermit = false ∧ s.pressLoad = false ∧
      s.chuteOpen = false ∧ s.attention = false)

/-- R169 to R171, R37, R147, R163, R124, R167, R101: the release of a controller restart, whole. The
held recovery timers run on, RESTARTED is set, the fault latch follows the input, the overdue test
is made and the round timer starts again. A transfer in flight is retired TRANSFER_UNKNOWN, before
or after the catch-up; the reports held from before the entry are taken first of all or right after
that retirement, in the order of their arrival, as ENERGY_REPORT and UNHEATED_REPORT take them; then
the row and exit records take the missed steps without energy (and STALE beyond 3000) with their
step notices. A MEASURING billet's window starts again, and the restart record is written. Without a
restart in its hold, and while power-on reset holds the part, there is nothing to release. That the
release of a RESTART request first lets time reach its 20 ms is log entry 3, that an assertion of
CTRL_RESET in them brings it no earlier is log entry 10, and the order of its parts is log entry 11.
-/
def Obligations.RestartReleaseCatchesUp : Prop :=
  (∀ (s : State) (retireFirst : Bool), s.restart.hold = none ∨ s.restart.hold = some .powerOn →
    exec (.restartRelease retireFirst) s = .next s) ∧
  ∀ (s : State) (h : RestartHold) (retireFirst : Bool), s.restart.hold = some (.restart h) →
    TagsDistinct s →
    (s.exit.state = .toPress ∨ s.exit.state = .rejecting →
      ∃ r ∈ s.pool.records, s.exit.slot = some r.tag) →
    let u := if h.cause = .request then s.reach (h.entryTime + 20) else s
    let now := u.clock.count
    let missed := (now - s.clock.lastBoundary) / 200
    let overdue := ∃ z : ZoneId, s.zones[z].map.enabled = true ∧ s.tuner.window ≤ s.zones[z].tuningAge
    let released : State := { u with
      zones := u.zones.map fun z => { z with
        timer := z.timer.map fun due => due + (now - h.entryTime) }
      restart := { s.restart with hold := none }
      pins := { s.pins with ctrlReset := false }
      line := { s.line with faultLatch := s.line.faultLatch || s.pins.feederFault }
      feeder := { s.feeder with roundStart := now }
      link := { s.link with
        flags := if overdue then s.link.flags ||| 256 ||| 128 else s.link.flags ||| 256 } }
    let reported : State → State := fun x => x.afterAll (x.mail.reports.map fun report =>
      match report.source with
      | .zone z _ _ => Instr.energyReport z
      | .unheated => .unheatedReport)
    let caughtUp : State → BilletRecord → BilletRecord := fun x r =>
      (thermalStep x.recipes[r.recipe].fields x.line.tAmb x.line.mode none 0)^[min 3000 missed]
        { r with flags := { r.flags with stale := r.flags.stale || decide (3000 < missed) } }
    let stepped : State → State := fun x => { x with
      pool := { x.pool with
        records := x.pool.records.map fun r => if r.place = .queued then r else caughtUp x r }
      mail := { x.mail with
        steps := x.mail.steps ++ x.pool.records.flatMap fun r =>
          if r.place = .exit then
            List.replicate (min 3000 missed) { tag := r.tag, loadSeq := r.loadSeq } else [] } }
    let retired : State → State := fun x =>
      if x.exit.state = .toPress ∨ x.exit.state = .rejecting then
        match x.pool.records.find? fun r => decide (x.exit.slot = some r.tag) with
        | none => x
        | some r => { x with
            pool := { x.pool with
              records := x.pool.records.filter fun y => y.tag != r.tag
              lastRetired := some { r with outcome := some .transferUnknown }
              outcomes := x.pool.outcomes.set 7 (min 65535 (x.pool.outcomes[7] + 1)) }
            recipes := x.recipes.set r.recipe
              { x.recipes[r.recipe] with users := x.recipes[r.recipe].users - 1 }
            exit := { x.exit with
              slot := none, state := .empty, waitRounds := none, windowTimer := none
              transferTimer := none }
            link := { x.link with flags := x.link.flags ||| 1 }
            line :=
              if x.line.mode = .drain ∧ ∀ p : Fin 40, x.row.positions[p] = none then
                { x.line with mode := .stopped, autoHold := none } else x.line }
      else x
    let before := if retireFirst then reported (retired released) else reported released
    let last := if retireFirst then stepped before else retired (stepped before)
    exec (.restartRelease retireFirst) s = .next { last with
      exit :=
        if last.exit.state = .measuring then
          { last.exit with readings := [], windowTimer := some (now + 1500) }
        else last.exit
      restart :=
        { hold := none, count := min 65535 (s.restart.count + 1)
          last := some
            { cause := h.cause, entryTime := h.entryTime, releaseTime := now
              modeBefore := h.modeBefore, missedRounds := min 4294967295 missed
              catchupSteps := min 3000 missed, staleApplied := decide (3000 < missed)
              recordsStepped :=
                if missed = 0 then 0
                else (before.pool.records.filter fun r => decide (r.place ≠ .queued)).length } } }

/-! ## The laws every step keeps -/

/-- R83, R86, R89, R97, R78, R60, R118: every step keeps the zone channels' laws: on_since present
exactly in ON, a timer exactly in the timed states, no grant in force or waiting outside STARTING
and ON, no band waiting in OFF; the map in its ranges, enabled zones disjoint and within the row;
and the enabled minimums within a configured feeder limit. -/
def Obligations.ZoneLawsKept : Prop :=
  ∀ s t : State, step s = .next t → ZonesFit s ∧ MapKept s → ZonesFit t ∧ MapKept t

/-- R7, R29, R30: every step keeps tags distinct, each recipe's user count equal to the number of live
records that name it, and a recipe in use valid. -/
def Obligations.RecipeUseKept : Prop :=
  ∀ s t : State, step s = .next t → RecipesTracked s → RecipesTracked t

/-- R3, R28, R93, R95, R162: every step keeps the temperatures, offsets, biases, meters, efficiencies
and line parameters in their ranges. -/
def Obligations.RangesKeptByEveryStep : Prop :=
  ∀ s t : State, step s = .next t → RangesKept s → RangesKept t

/-- R111, R112: every step keeps the start history to four entries, none later than now, any two at
least 400 ms apart. -/
def Obligations.StartPacingKept : Prop :=
  ∀ s t : State, step s = .next t → StartsPaced s → StartsPaced t

/-- R7, R9, R59, R132, R149: every step keeps the billets' bookkeeping: each live record in exactly
one of the entry queue, one row position and the exit slot, as its place says; the station EMPTY
exactly when its slot is; and in STOPPED and SERVICE no record in the row or at the exit. -/
def Obligations.BilletsStayTracked : Prop :=
  ∀ s t : State, step s = .next t → BilletsTracked s → BilletsTracked t

/-- The laws of Safety.lean hold of the state right after power-on reset. -/
def Obligations.ResetStateIsLawful : Prop := Lawful State.reset
end

