-- ==== Sys2Proof/Laws/State.lean ====
section
/-! SUPPORT. Laws/State.lean: for each shared operation, one lemma per block it leaves alone. -/

namespace Sys2Proof.Machine

/-! ### `State.raise` -/

@[simp] theorem State.raise_pending (s : State) (f : AttnFlag) :
    (s.raise f).pending = s.pending := rfl

@[simp] theorem State.raise_clock (s : State) (f : AttnFlag) :
    (s.raise f).clock = s.clock := rfl

@[simp] theorem State.raise_pool (s : State) (f : AttnFlag) :
    (s.raise f).pool = s.pool := rfl

@[simp] theorem State.raise_recipes (s : State) (f : AttnFlag) :
    (s.raise f).recipes = s.recipes := rfl

@[simp] theorem State.raise_row (s : State) (f : AttnFlag) :
    (s.raise f).row = s.row := rfl

@[simp] theorem State.raise_zones (s : State) (f : AttnFlag) :
    (s.raise f).zones = s.zones := rfl

@[simp] theorem State.raise_feeder (s : State) (f : AttnFlag) :
    (s.raise f).feeder = s.feeder := rfl

@[simp] theorem State.raise_tuner (s : State) (f : AttnFlag) :
    (s.raise f).tuner = s.tuner := rfl

@[simp] theorem State.raise_exit (s : State) (f : AttnFlag) :
    (s.raise f).exit = s.exit := rfl

@[simp] theorem State.raise_line (s : State) (f : AttnFlag) :
    (s.raise f).line = s.line := rfl

@[simp] theorem State.raise_restart (s : State) (f : AttnFlag) :
    (s.raise f).restart = s.restart := rfl

@[simp] theorem State.raise_mail (s : State) (f : AttnFlag) :
    (s.raise f).mail = s.mail := rfl

@[simp] theorem State.raise_pins (s : State) (f : AttnFlag) :
    (s.raise f).pins = s.pins := rfl

@[simp] theorem State.raise_sent (s : State) (f : AttnFlag) :
    (s.raise f).sent = s.sent := rfl

/-! ### `State.raiseIf` -/

@[simp] theorem State.raiseIf_pending (s : State) (c : Bool) (f : AttnFlag) :
    (s.raiseIf c f).pending = s.pending := by
  simp only [State.raiseIf]; split <;> simp

@[simp] theorem State.raiseIf_clock (s : State) (c : Bool) (f : AttnFlag) :
    (s.raiseIf c f).clock = s.clock := by
  simp only [State.raiseIf]; split <;> simp

@[simp] theorem State.raiseIf_pool (s : State) (c : Bool) (f : AttnFlag) :
    (s.raiseIf c f).pool = s.pool := by
  simp only [State.raiseIf]; split <;> simp

@[simp] theorem State.raiseIf_recipes (s : State) (c : Bool) (f : AttnFlag) :
    (s.raiseIf c f).recipes = s.recipes := by
  simp only [State.raiseIf]; split <;> simp

@[simp] theorem State.raiseIf_row (s : State) (c : Bool) (f : AttnFlag) :
    (s.raiseIf c f).row = s.row := by
  simp only [State.raiseIf]; split <;> simp

@[simp] theorem State.raiseIf_zones (s : State) (c : Bool) (f : AttnFlag) :
    (s.raiseIf c f).zones = s.zones := by
  simp only [State.raiseIf]; split <;> simp

@[simp] theorem State.raiseIf_feeder (s : State) (c : Bool) (f : AttnFlag) :
    (s.raiseIf c f).feeder = s.feeder := by
  simp only [State.raiseIf]; split <;> simp

@[simp] theorem State.raiseIf_tuner (s : State) (c : Bool) (f : AttnFlag) :
    (s.raiseIf c f).tuner = s.tuner := by
  simp only [State.raiseIf]; split <;> simp

@[simp] theorem State.raiseIf_exit (s : State) (c : Bool) (f : AttnFlag) :
    (s.raiseIf c f).exit = s.exit := by
  simp only [State.raiseIf]; split <;> simp

@[simp] theorem State.raiseIf_line (s : State) (c : Bool) (f : AttnFlag) :
    (s.raiseIf c f).line = s.line := by
  simp only [State.raiseIf]; split <;> simp

@[simp] theorem State.raiseIf_restart (s : State) (c : Bool) (f : AttnFlag) :
    (s.raiseIf c f).restart = s.restart := by
  simp only [State.raiseIf]; split <;> simp

@[simp] theorem State.raiseIf_mail (s : State) (c : Bool) (f : AttnFlag) :
    (s.raiseIf c f).mail = s.mail := by
  simp only [State.raiseIf]; split <;> simp

@[simp] theorem State.raiseIf_pins (s : State) (c : Bool) (f : AttnFlag) :
    (s.raiseIf c f).pins = s.pins := by
  simp only [State.raiseIf]; split <;> simp

@[simp] theorem State.raiseIf_sent (s : State) (c : Bool) (f : AttnFlag) :
    (s.raiseIf c f).sent = s.sent := by
  simp only [State.raiseIf]; split <;> simp

/-! ### `State.elapse` -/

@[simp] theorem State.elapse_pending (s : State) (n : Nat) :
    (s.elapse n).pending = s.pending := rfl

@[simp] theorem State.elapse_pool (s : State) (n : Nat) :
    (s.elapse n).pool = s.pool := rfl

@[simp] theorem State.elapse_recipes (s : State) (n : Nat) :
    (s.elapse n).recipes = s.recipes := rfl

@[simp] theorem State.elapse_row (s : State) (n : Nat) :
    (s.elapse n).row = s.row := rfl

@[simp] theorem State.elapse_feeder (s : State) (n : Nat) :
    (s.elapse n).feeder = s.feeder := rfl

@[simp] theorem State.elapse_tuner (s : State) (n : Nat) :
    (s.elapse n).tuner = s.tuner := rfl

@[simp] theorem State.elapse_exit (s : State) (n : Nat) :
    (s.elapse n).exit = s.exit := rfl

@[simp] theorem State.elapse_line (s : State) (n : Nat) :
    (s.elapse n).line = s.line := rfl

@[simp] theorem State.elapse_link (s : State) (n : Nat) :
    (s.elapse n).link = s.link := rfl

@[simp] theorem State.elapse_restart (s : State) (n : Nat) :
    (s.elapse n).restart = s.restart := rfl

@[simp] theorem State.elapse_mail (s : State) (n : Nat) :
    (s.elapse n).mail = s.mail := rfl

@[simp] theorem State.elapse_pins (s : State) (n : Nat) :
    (s.elapse n).pins = s.pins := rfl

@[simp] theorem State.elapse_sent (s : State) (n : Nat) :
    (s.elapse n).sent = s.sent := rfl

/-! ### `State.reach` -/

@[simp] theorem State.reach_pending (s : State) (due : Nat) :
    (s.reach due).pending = s.pending := rfl

@[simp] theorem State.reach_pool (s : State) (due : Nat) :
    (s.reach due).pool = s.pool := rfl

@[simp] theorem State.reach_recipes (s : State) (due : Nat) :
    (s.reach due).recipes = s.recipes := rfl

@[simp] theorem State.reach_row (s : State) (due : Nat) :
    (s.reach due).row = s.row := rfl

@[simp] theorem State.reach_feeder (s : State) (due : Nat) :
    (s.reach due).feeder = s.feeder := rfl

@[simp] theorem State.reach_tuner (s : State) (due : Nat) :
    (s.reach due).tuner = s.tuner := rfl

@[simp] theorem State.reach_exit (s : State) (due : Nat) :
    (s.reach due).exit = s.exit := rfl

@[simp] theorem State.reach_line (s : State) (due : Nat) :
    (s.reach due).line = s.line := rfl

@[simp] theorem State.reach_link (s : State) (due : Nat) :
    (s.reach due).link = s.link := rfl

@[simp] theorem State.reach_restart (s : State) (due : Nat) :
    (s.reach due).restart = s.restart := rfl

@[simp] theorem State.reach_mail (s : State) (due : Nat) :
    (s.reach due).mail = s.mail := rfl

@[simp] theorem State.reach_pins (s : State) (due : Nat) :
    (s.reach due).pins = s.pins := rfl

@[simp] theorem State.reach_sent (s : State) (due : Nat) :
    (s.reach due).sent = s.sent := rfl

/-! ### `State.modifyRecord` -/

@[simp] theorem State.modifyRecord_pending (s : State) (tag : Nat) (f : BilletRecord → BilletRecord) :
    (s.modifyRecord tag f).pending = s.pending := rfl

@[simp] theorem State.modifyRecord_clock (s : State) (tag : Nat) (f : BilletRecord → BilletRecord) :
    (s.modifyRecord tag f).clock = s.clock := rfl

@[simp] theorem State.modifyRecord_recipes (s : State) (tag : Nat) (f : BilletRecord → BilletRecord) :
    (s.modifyRecord tag f).recipes = s.recipes := rfl

@[simp] theorem State.modifyRecord_row (s : State) (tag : Nat) (f : BilletRecord → BilletRecord) :
    (s.modifyRecord tag f).row = s.row := rfl

@[simp] theorem State.modifyRecord_zones (s : State) (tag : Nat) (f : BilletRecord → BilletRecord) :
    (s.modifyRecord tag f).zones = s.zones := rfl

@[simp] theorem State.modifyRecord_feeder (s : State) (tag : Nat) (f : BilletRecord → BilletRecord) :
    (s.modifyRecord tag f).feeder = s.feeder := rfl

@[simp] theorem State.modifyRecord_tuner (s : State) (tag : Nat) (f : BilletRecord → BilletRecord) :
    (s.modifyRecord tag f).tuner = s.tuner := rfl

@[simp] theorem State.modifyRecord_exit (s : State) (tag : Nat) (f : BilletRecord → BilletRecord) :
    (s.modifyRecord tag f).exit = s.exit := rfl

@[simp] theorem State.modifyRecord_line (s : State) (tag : Nat) (f : BilletRecord → BilletRecord) :
    (s.modifyRecord tag f).line = s.line := rfl

@[simp] theorem State.modifyRecord_link (s : State) (tag : Nat) (f : BilletRecord → BilletRecord) :
    (s.modifyRecord tag f).link = s.link := rfl

@[simp] theorem State.modifyRecord_restart (s : State) (tag : Nat) (f : BilletRecord → BilletRecord) :
    (s.modifyRecord tag f).restart = s.restart := rfl

@[simp] theorem State.modifyRecord_mail (s : State) (tag : Nat) (f : BilletRecord → BilletRecord) :
    (s.modifyRecord tag f).mail = s.mail := rfl

@[simp] theorem State.modifyRecord_pins (s : State) (tag : Nat) (f : BilletRecord → BilletRecord) :
    (s.modifyRecord tag f).pins = s.pins := rfl

@[simp] theorem State.modifyRecord_sent (s : State) (tag : Nat) (f : BilletRecord → BilletRecord) :
    (s.modifyRecord tag f).sent = s.sent := rfl

/-! ### `State.modifyRecipe` -/

@[simp] theorem State.modifyRecipe_pending (s : State) (k : RecipeId) (f : Recipe → Recipe) :
    (s.modifyRecipe k f).pending = s.pending := rfl

@[simp] theorem State.modifyRecipe_clock (s : State) (k : RecipeId) (f : Recipe → Recipe) :
    (s.modifyRecipe k f).clock = s.clock := rfl

@[simp] theorem State.modifyRecipe_pool (s : State) (k : RecipeId) (f : Recipe → Recipe) :
    (s.modifyRecipe k f).pool = s.pool := rfl

@[simp] theorem State.modifyRecipe_row (s : State) (k : RecipeId) (f : Recipe → Recipe) :
    (s.modifyRecipe k f).row = s.row := rfl

@[simp] theorem State.modifyRecipe_zones (s : State) (k : RecipeId) (f : Recipe → Recipe) :
    (s.modifyRecipe k f).zones = s.zones := rfl

@[simp] theorem State.modifyRecipe_feeder (s : State) (k : RecipeId) (f : Recipe → Recipe) :
    (s.modifyRecipe k f).feeder = s.feeder := rfl

@[simp] theorem State.modifyRecipe_tuner (s : State) (k : RecipeId) (f : Recipe → Recipe) :
    (s.modifyRecipe k f).tuner = s.tuner := rfl

@[simp] theorem State.modifyRecipe_exit (s : State) (k : RecipeId) (f : Recipe → Recipe) :
    (s.modifyRecipe k f).exit = s.exit := rfl

@[simp] theorem State.modifyRecipe_line (s : State) (k : RecipeId) (f : Recipe → Recipe) :
    (s.modifyRecipe k f).line = s.line := rfl

@[simp] theorem State.modifyRecipe_link (s : State) (k : RecipeId) (f : Recipe → Recipe) :
    (s.modifyRecipe k f).link = s.link := rfl

@[simp] theorem State.modifyRecipe_restart (s : State) (k : RecipeId) (f : Recipe → Recipe) :
    (s.modifyRecipe k f).restart = s.restart := rfl

@[simp] theorem State.modifyRecipe_mail (s : State) (k : RecipeId) (f : Recipe → Recipe) :
    (s.modifyRecipe k f).mail = s.mail := rfl

@[simp] theorem State.modifyRecipe_pins (s : State) (k : RecipeId) (f : Recipe → Recipe) :
    (s.modifyRecipe k f).pins = s.pins := rfl

@[simp] theorem State.modifyRecipe_sent (s : State) (k : RecipeId) (f : Recipe → Recipe) :
    (s.modifyRecipe k f).sent = s.sent := rfl

/-! ### `State.modifyZone` -/

@[simp] theorem State.modifyZone_pending (s : State) (z : ZoneId) (f : ZoneChannel → ZoneChannel) :
    (s.modifyZone z f).pending = s.pending := rfl

@[simp] theorem State.modifyZone_clock (s : State) (z : ZoneId) (f : ZoneChannel → ZoneChannel) :
    (s.modifyZone z f).clock = s.clock := rfl

@[simp] theorem State.modifyZone_pool (s : State) (z : ZoneId) (f : ZoneChannel → ZoneChannel) :
    (s.modifyZone z f).pool = s.pool := rfl

@[simp] theorem State.modifyZone_recipes (s : State) (z : ZoneId) (f : ZoneChannel → ZoneChannel) :
    (s.modifyZone z f).recipes = s.recipes := rfl

@[simp] theorem State.modifyZone_row (s : State) (z : ZoneId) (f : ZoneChannel → ZoneChannel) :
    (s.modifyZone z f).row = s.row := rfl

@[simp] theorem State.modifyZone_feeder (s : State) (z : ZoneId) (f : ZoneChannel → ZoneChannel) :
    (s.modifyZone z f).feeder = s.feeder := rfl

@[simp] theorem State.modifyZone_tuner (s : State) (z : ZoneId) (f : ZoneChannel → ZoneChannel) :
    (s.modifyZone z f).tuner = s.tuner := rfl

@[simp] theorem State.modifyZone_exit (s : State) (z : ZoneId) (f : ZoneChannel → ZoneChannel) :
    (s.modifyZone z f).exit = s.exit := rfl

@[simp] theorem State.modifyZone_line (s : State) (z : ZoneId) (f : ZoneChannel → ZoneChannel) :
    (s.modifyZone z f).line = s.line := rfl

@[simp] theorem State.modifyZone_link (s : State) (z : ZoneId) (f : ZoneChannel → ZoneChannel) :
    (s.modifyZone z f).link = s.link := rfl

@[simp] theorem State.modifyZone_restart (s : State) (z : ZoneId) (f : ZoneChannel → ZoneChannel) :
    (s.modifyZone z f).restart = s.restart := rfl

@[simp] theorem State.modifyZone_mail (s : State) (z : ZoneId) (f : ZoneChannel → ZoneChannel) :
    (s.modifyZone z f).mail = s.mail := rfl

@[simp] theorem State.modifyZone_pins (s : State) (z : ZoneId) (f : ZoneChannel → ZoneChannel) :
    (s.modifyZone z f).pins = s.pins := rfl

@[simp] theorem State.modifyZone_sent (s : State) (z : ZoneId) (f : ZoneChannel → ZoneChannel) :
    (s.modifyZone z f).sent = s.sent := rfl

/-! ### `State.retire` -/

@[simp] theorem State.retire_pending (s : State) (tag : Nat) (o : BilletOutcome) :
    (s.retire tag o).pending = s.pending := by
  simp only [State.retire]; split <;> simp

@[simp] theorem State.retire_clock (s : State) (tag : Nat) (o : BilletOutcome) :
    (s.retire tag o).clock = s.clock := by
  simp only [State.retire]; split <;> simp

@[simp] theorem State.retire_row (s : State) (tag : Nat) (o : BilletOutcome) :
    (s.retire tag o).row = s.row := by
  simp only [State.retire]; split <;> simp

@[simp] theorem State.retire_zones (s : State) (tag : Nat) (o : BilletOutcome) :
    (s.retire tag o).zones = s.zones := by
  simp only [State.retire]; split <;> simp

@[simp] theorem State.retire_feeder (s : State) (tag : Nat) (o : BilletOutcome) :
    (s.retire tag o).feeder = s.feeder := by
  simp only [State.retire]; split <;> simp

@[simp] theorem State.retire_tuner (s : State) (tag : Nat) (o : BilletOutcome) :
    (s.retire tag o).tuner = s.tuner := by
  simp only [State.retire]; split <;> simp

@[simp] theorem State.retire_exit (s : State) (tag : Nat) (o : BilletOutcome) :
    (s.retire tag o).exit = s.exit := by
  simp only [State.retire]; split <;> simp

@[simp] theorem State.retire_line (s : State) (tag : Nat) (o : BilletOutcome) :
    (s.retire tag o).line = s.line := by
  simp only [State.retire]; split <;> simp

@[simp] theorem State.retire_restart (s : State) (tag : Nat) (o : BilletOutcome) :
    (s.retire tag o).restart = s.restart := by
  simp only [State.retire]; split <;> simp

@[simp] theorem State.retire_mail (s : State) (tag : Nat) (o : BilletOutcome) :
    (s.retire tag o).mail = s.mail := by
  simp only [State.retire]; split <;> simp

@[simp] theorem State.retire_pins (s : State) (tag : Nat) (o : BilletOutcome) :
    (s.retire tag o).pins = s.pins := by
  simp only [State.retire]; split <;> simp

@[simp] theorem State.retire_sent (s : State) (tag : Nat) (o : BilletOutcome) :
    (s.retire tag o).sent = s.sent := by
  simp only [State.retire]; split <;> simp

/-! ### `State.settleFetch` -/

@[simp] theorem State.settleFetch_pending (s : State) (n : Nat) :
    (s.settleFetch n).pending = s.pending := rfl

@[simp] theorem State.settleFetch_clock (s : State) (n : Nat) :
    (s.settleFetch n).clock = s.clock := rfl

@[simp] theorem State.settleFetch_pool (s : State) (n : Nat) :
    (s.settleFetch n).pool = s.pool := rfl

@[simp] theorem State.settleFetch_recipes (s : State) (n : Nat) :
    (s.settleFetch n).recipes = s.recipes := rfl

@[simp] theorem State.settleFetch_row (s : State) (n : Nat) :
    (s.settleFetch n).row = s.row := rfl

@[simp] theorem State.settleFetch_zones (s : State) (n : Nat) :
    (s.settleFetch n).zones = s.zones := rfl

@[simp] theorem State.settleFetch_feeder (s : State) (n : Nat) :
    (s.settleFetch n).feeder = s.feeder := rfl

@[simp] theorem State.settleFetch_tuner (s : State) (n : Nat) :
    (s.settleFetch n).tuner = s.tuner := rfl

@[simp] theorem State.settleFetch_exit (s : State) (n : Nat) :
    (s.settleFetch n).exit = s.exit := rfl

@[simp] theorem State.settleFetch_line (s : State) (n : Nat) :
    (s.settleFetch n).line = s.line := rfl

@[simp] theorem State.settleFetch_restart (s : State) (n : Nat) :
    (s.settleFetch n).restart = s.restart := rfl

@[simp] theorem State.settleFetch_mail (s : State) (n : Nat) :
    (s.settleFetch n).mail = s.mail := rfl

@[simp] theorem State.settleFetch_pins (s : State) (n : Nat) :
    (s.settleFetch n).pins = s.pins := rfl

@[simp] theorem State.settleFetch_sent (s : State) (n : Nat) :
    (s.settleFetch n).sent = s.sent := rfl

/-! ### `State.respond` -/

@[simp] theorem State.respond_pending (s : State) (r : Response) :
    (s.respond r).pending = s.pending := rfl

@[simp] theorem State.respond_clock (s : State) (r : Response) :
    (s.respond r).clock = s.clock := rfl

@[simp] theorem State.respond_pool (s : State) (r : Response) :
    (s.respond r).pool = s.pool := rfl

@[simp] theorem State.respond_recipes (s : State) (r : Response) :
    (s.respond r).recipes = s.recipes := rfl

@[simp] theorem State.respond_row (s : State) (r : Response) :
    (s.respond r).row = s.row := rfl

@[simp] theorem State.respond_zones (s : State) (r : Response) :
    (s.respond r).zones = s.zones := rfl

@[simp] theorem State.respond_feeder (s : State) (r : Response) :
    (s.respond r).feeder = s.feeder := rfl

@[simp] theorem State.respond_tuner (s : State) (r : Response) :
    (s.respond r).tuner = s.tuner := rfl

@[simp] theorem State.respond_exit (s : State) (r : Response) :
    (s.respond r).exit = s.exit := rfl

@[simp] theorem State.respond_line (s : State) (r : Response) :
    (s.respond r).line = s.line := rfl

@[simp] theorem State.respond_restart (s : State) (r : Response) :
    (s.respond r).restart = s.restart := rfl

@[simp] theorem State.respond_mail (s : State) (r : Response) :
    (s.respond r).mail = s.mail := rfl

@[simp] theorem State.respond_pins (s : State) (r : Response) :
    (s.respond r).pins = s.pins := rfl

@[simp] theorem State.respond_sent (s : State) (r : Response) :
    (s.respond r).sent = s.sent := rfl

/-! ### `State.shiftEmpty` -/

@[simp] theorem State.shiftEmpty_pending (s : State) (n : Nat) :
    (s.shiftEmpty n).pending = s.pending := rfl

@[simp] theorem State.shiftEmpty_clock (s : State) (n : Nat) :
    (s.shiftEmpty n).clock = s.clock := rfl

@[simp] theorem State.shiftEmpty_pool (s : State) (n : Nat) :
    (s.shiftEmpty n).pool = s.pool := rfl

@[simp] theorem State.shiftEmpty_recipes (s : State) (n : Nat) :
    (s.shiftEmpty n).recipes = s.recipes := rfl

@[simp] theorem State.shiftEmpty_row (s : State) (n : Nat) :
    (s.shiftEmpty n).row = s.row := rfl

@[simp] theorem State.shiftEmpty_zones (s : State) (n : Nat) :
    (s.shiftEmpty n).zones = s.zones := rfl

@[simp] theorem State.shiftEmpty_feeder (s : State) (n : Nat) :
    (s.shiftEmpty n).feeder = s.feeder := rfl

@[simp] theorem State.shiftEmpty_tuner (s : State) (n : Nat) :
    (s.shiftEmpty n).tuner = s.tuner := rfl

@[simp] theorem State.shiftEmpty_exit (s : State) (n : Nat) :
    (s.shiftEmpty n).exit = s.exit := rfl

@[simp] theorem State.shiftEmpty_line (s : State) (n : Nat) :
    (s.shiftEmpty n).line = s.line := rfl

@[simp] theorem State.shiftEmpty_restart (s : State) (n : Nat) :
    (s.shiftEmpty n).restart = s.restart := rfl

@[simp] theorem State.shiftEmpty_mail (s : State) (n : Nat) :
    (s.shiftEmpty n).mail = s.mail := rfl

@[simp] theorem State.shiftEmpty_pins (s : State) (n : Nat) :
    (s.shiftEmpty n).pins = s.pins := rfl

@[simp] theorem State.shiftEmpty_sent (s : State) (n : Nat) :
    (s.shiftEmpty n).sent = s.sent := rfl

/-! ### `State.send` -/

@[simp] theorem State.send_pending (s : State) (z : ZoneId) (c : InverterCommand) :
    (s.send z c).pending = s.pending := rfl

@[simp] theorem State.send_clock (s : State) (z : ZoneId) (c : InverterCommand) :
    (s.send z c).clock = s.clock := rfl

@[simp] theorem State.send_pool (s : State) (z : ZoneId) (c : InverterCommand) :
    (s.send z c).pool = s.pool := rfl

@[simp] theorem State.send_recipes (s : State) (z : ZoneId) (c : InverterCommand) :
    (s.send z c).recipes = s.recipes := rfl

@[simp] theorem State.send_row (s : State) (z : ZoneId) (c : InverterCommand) :
    (s.send z c).row = s.row := rfl

@[simp] theorem State.send_zones (s : State) (z : ZoneId) (c : InverterCommand) :
    (s.send z c).zones = s.zones := rfl

@[simp] theorem State.send_feeder (s : State) (z : ZoneId) (c : InverterCommand) :
    (s.send z c).feeder = s.feeder := rfl

@[simp] theorem State.send_tuner (s : State) (z : ZoneId) (c : InverterCommand) :
    (s.send z c).tuner = s.tuner := rfl

@[simp] theorem State.send_exit (s : State) (z : ZoneId) (c : InverterCommand) :
    (s.send z c).exit = s.exit := rfl

@[simp] theorem State.send_line (s : State) (z : ZoneId) (c : InverterCommand) :
    (s.send z c).line = s.line := rfl

@[simp] theorem State.send_link (s : State) (z : ZoneId) (c : InverterCommand) :
    (s.send z c).link = s.link := rfl

@[simp] theorem State.send_restart (s : State) (z : ZoneId) (c : InverterCommand) :
    (s.send z c).restart = s.restart := rfl

@[simp] theorem State.send_mail (s : State) (z : ZoneId) (c : InverterCommand) :
    (s.send z c).mail = s.mail := rfl

@[simp] theorem State.send_pins (s : State) (z : ZoneId) (c : InverterCommand) :
    (s.send z c).pins = s.pins := rfl

/-! ### `State.tellTuner` -/

@[simp] theorem State.tellTuner_pending (s : State) (z : ZoneId) (o : TuneOutcome) :
    (s.tellTuner z o).pending = s.pending := rfl

@[simp] theorem State.tellTuner_clock (s : State) (z : ZoneId) (o : TuneOutcome) :
    (s.tellTuner z o).clock = s.clock := rfl

@[simp] theorem State.tellTuner_pool (s : State) (z : ZoneId) (o : TuneOutcome) :
    (s.tellTuner z o).pool = s.pool := rfl

@[simp] theorem State.tellTuner_recipes (s : State) (z : ZoneId) (o : TuneOutcome) :
    (s.tellTuner z o).recipes = s.recipes := rfl

@[simp] theorem State.tellTuner_row (s : State) (z : ZoneId) (o : TuneOutcome) :
    (s.tellTuner z o).row = s.row := rfl

@[simp] theorem State.tellTuner_zones (s : State) (z : ZoneId) (o : TuneOutcome) :
    (s.tellTuner z o).zones = s.zones := rfl

@[simp] theorem State.tellTuner_feeder (s : State) (z : ZoneId) (o : TuneOutcome) :
    (s.tellTuner z o).feeder = s.feeder := rfl

@[simp] theorem State.tellTuner_tuner (s : State) (z : ZoneId) (o : TuneOutcome) :
    (s.tellTuner z o).tuner = s.tuner := rfl

@[simp] theorem State.tellTuner_exit (s : State) (z : ZoneId) (o : TuneOutcome) :
    (s.tellTuner z o).exit = s.exit := rfl

@[simp] theorem State.tellTuner_line (s : State) (z : ZoneId) (o : TuneOutcome) :
    (s.tellTuner z o).line = s.line := rfl

@[simp] theorem State.tellTuner_link (s : State) (z : ZoneId) (o : TuneOutcome) :
    (s.tellTuner z o).link = s.link := rfl

@[simp] theorem State.tellTuner_restart (s : State) (z : ZoneId) (o : TuneOutcome) :
    (s.tellTuner z o).restart = s.restart := rfl

@[simp] theorem State.tellTuner_pins (s : State) (z : ZoneId) (o : TuneOutcome) :
    (s.tellTuner z o).pins = s.pins := rfl

@[simp] theorem State.tellTuner_sent (s : State) (z : ZoneId) (o : TuneOutcome) :
    (s.tellTuner z o).sent = s.sent := rfl

/-! ### `State.enterStopping` -/

@[simp] theorem State.enterStopping_pending (s : State) (z : ZoneId) :
    (s.enterStopping z).pending = s.pending := rfl

@[simp] theorem State.enterStopping_clock (s : State) (z : ZoneId) :
    (s.enterStopping z).clock = s.clock := rfl

@[simp] theorem State.enterStopping_pool (s : State) (z : ZoneId) :
    (s.enterStopping z).pool = s.pool := rfl

@[simp] theorem State.enterStopping_recipes (s : State) (z : ZoneId) :
    (s.enterStopping z).recipes = s.recipes := rfl

@[simp] theorem State.enterStopping_row (s : State) (z : ZoneId) :
    (s.enterStopping z).row = s.row := rfl

@[simp] theorem State.enterStopping_feeder (s : State) (z : ZoneId) :
    (s.enterStopping z).feeder = s.feeder := rfl

@[simp] theorem State.enterStopping_tuner (s : State) (z : ZoneId) :
    (s.enterStopping z).tuner = s.tuner := rfl

@[simp] theorem State.enterStopping_exit (s : State) (z : ZoneId) :
    (s.enterStopping z).exit = s.exit := rfl

@[simp] theorem State.enterStopping_line (s : State) (z : ZoneId) :
    (s.enterStopping z).line = s.line := rfl

@[simp] theorem State.enterStopping_link (s : State) (z : ZoneId) :
    (s.enterStopping z).link = s.link := rfl

@[simp] theorem State.enterStopping_restart (s : State) (z : ZoneId) :
    (s.enterStopping z).restart = s.restart := rfl

@[simp] theorem State.enterStopping_mail (s : State) (z : ZoneId) :
    (s.enterStopping z).mail = s.mail := rfl

@[simp] theorem State.enterStopping_pins (s : State) (z : ZoneId) :
    (s.enterStopping z).pins = s.pins := rfl

/-! ### `State.enterFaulted` -/

@[simp] theorem State.enterFaulted_pending (s : State) (z : ZoneId) (c : FaultCause) :
    (s.enterFaulted z c).pending = s.pending := by
  simp only [State.enterFaulted]; split <;> simp

@[simp] theorem State.enterFaulted_clock (s : State) (z : ZoneId) (c : FaultCause) :
    (s.enterFaulted z c).clock = s.clock := by
  simp only [State.enterFaulted]; split <;> simp

@[simp] theorem State.enterFaulted_pool (s : State) (z : ZoneId) (c : FaultCause) :
    (s.enterFaulted z c).pool = s.pool := by
  simp only [State.enterFaulted]; split <;> simp

@[simp] theorem State.enterFaulted_recipes (s : State) (z : ZoneId) (c : FaultCause) :
    (s.enterFaulted z c).recipes = s.recipes := by
  simp only [State.enterFaulted]; split <;> simp

@[simp] theorem State.enterFaulted_row (s : State) (z : ZoneId) (c : FaultCause) :
    (s.enterFaulted z c).row = s.row := by
  simp only [State.enterFaulted]; split <;> simp

@[simp] theorem State.enterFaulted_feeder (s : State) (z : ZoneId) (c : FaultCause) :
    (s.enterFaulted z c).feeder = s.feeder := by
  simp only [State.enterFaulted]; split <;> simp

@[simp] theorem State.enterFaulted_tuner (s : State) (z : ZoneId) (c : FaultCause) :
    (s.enterFaulted z c).tuner = s.tuner := by
  simp only [State.enterFaulted]; split <;> simp

@[simp] theorem State.enterFaulted_exit (s : State) (z : ZoneId) (c : FaultCause) :
    (s.enterFaulted z c).exit = s.exit := by
  simp only [State.enterFaulted]; split <;> simp

@[simp] theorem State.enterFaulted_line (s : State) (z : ZoneId) (c : FaultCause) :
    (s.enterFaulted z c).line = s.line := by
  simp only [State.enterFaulted]; split <;> simp

@[simp] theorem State.enterFaulted_restart (s : State) (z : ZoneId) (c : FaultCause) :
    (s.enterFaulted z c).restart = s.restart := by
  simp only [State.enterFaulted]; split <;> simp

@[simp] theorem State.enterFaulted_pins (s : State) (z : ZoneId) (c : FaultCause) :
    (s.enterFaulted z c).pins = s.pins := by
  simp only [State.enterFaulted]; split <;> simp

@[simp] theorem State.enterFaulted_sent (s : State) (z : ZoneId) (c : FaultCause) :
    (s.enterFaulted z c).sent = s.sent := by
  simp only [State.enterFaulted]; split <;> simp

/-! ### `State.stopAll` -/

@[simp] theorem State.stopAll_pending (s : State) :
    (s.stopAll).pending = s.pending := rfl

@[simp] theorem State.stopAll_clock (s : State) :
    (s.stopAll).clock = s.clock := rfl

@[simp] theorem State.stopAll_pool (s : State) :
    (s.stopAll).pool = s.pool := rfl

@[simp] theorem State.stopAll_recipes (s : State) :
    (s.stopAll).recipes = s.recipes := rfl

@[simp] theorem State.stopAll_row (s : State) :
    (s.stopAll).row = s.row := rfl

@[simp] theorem State.stopAll_feeder (s : State) :
    (s.stopAll).feeder = s.feeder := rfl

@[simp] theorem State.stopAll_tuner (s : State) :
    (s.stopAll).tuner = s.tuner := rfl

@[simp] theorem State.stopAll_exit (s : State) :
    (s.stopAll).exit = s.exit := rfl

@[simp] theorem State.stopAll_line (s : State) :
    (s.stopAll).line = s.line := rfl

@[simp] theorem State.stopAll_link (s : State) :
    (s.stopAll).link = s.link := rfl

@[simp] theorem State.stopAll_restart (s : State) :
    (s.stopAll).restart = s.restart := rfl

@[simp] theorem State.stopAll_pins (s : State) :
    (s.stopAll).pins = s.pins := rfl

/-! ### `State.startAutoHold` -/

@[simp] theorem State.startAutoHold_pending (s : State) :
    (s.startAutoHold).pending = s.pending := by
  simp only [State.startAutoHold]; split <;> simp

@[simp] theorem State.startAutoHold_clock (s : State) :
    (s.startAutoHold).clock = s.clock := by
  simp only [State.startAutoHold]; split <;> simp

@[simp] theorem State.startAutoHold_pool (s : State) :
    (s.startAutoHold).pool = s.pool := by
  simp only [State.startAutoHold]; split <;> simp

@[simp] theorem State.startAutoHold_recipes (s : State) :
    (s.startAutoHold).recipes = s.recipes := by
  simp only [State.startAutoHold]; split <;> simp

@[simp] theorem State.startAutoHold_row (s : State) :
    (s.startAutoHold).row = s.row := by
  simp only [State.startAutoHold]; split <;> simp

@[simp] theorem State.startAutoHold_zones (s : State) :
    (s.startAutoHold).zones = s.zones := by
  simp only [State.startAutoHold]; split <;> simp

@[simp] theorem State.startAutoHold_feeder (s : State) :
    (s.startAutoHold).feeder = s.feeder := by
  simp only [State.startAutoHold]; split <;> simp

@[simp] theorem State.startAutoHold_tuner (s : State) :
    (s.startAutoHold).tuner = s.tuner := by
  simp only [State.startAutoHold]; split <;> simp

@[simp] theorem State.startAutoHold_exit (s : State) :
    (s.startAutoHold).exit = s.exit := by
  simp only [State.startAutoHold]; split <;> simp

@[simp] theorem State.startAutoHold_link (s : State) :
    (s.startAutoHold).link = s.link := by
  simp only [State.startAutoHold]; split <;> simp

@[simp] theorem State.startAutoHold_restart (s : State) :
    (s.startAutoHold).restart = s.restart := by
  simp only [State.startAutoHold]; split <;> simp

@[simp] theorem State.startAutoHold_mail (s : State) :
    (s.startAutoHold).mail = s.mail := by
  simp only [State.startAutoHold]; split <;> simp

@[simp] theorem State.startAutoHold_pins (s : State) :
    (s.startAutoHold).pins = s.pins := by
  simp only [State.startAutoHold]; split <;> simp

@[simp] theorem State.startAutoHold_sent (s : State) :
    (s.startAutoHold).sent = s.sent := by
  simp only [State.startAutoHold]; split <;> simp

/-! ### `State.clearCadence` -/

@[simp] theorem State.clearCadence_pending (s : State) :
    (s.clearCadence).pending = s.pending := rfl

@[simp] theorem State.clearCadence_clock (s : State) :
    (s.clearCadence).clock = s.clock := rfl

@[simp] theorem State.clearCadence_pool (s : State) :
    (s.clearCadence).pool = s.pool := rfl

@[simp] theorem State.clearCadence_recipes (s : State) :
    (s.clearCadence).recipes = s.recipes := rfl

@[simp] theorem State.clearCadence_zones (s : State) :
    (s.clearCadence).zones = s.zones := rfl

@[simp] theorem State.clearCadence_feeder (s : State) :
    (s.clearCadence).feeder = s.feeder := rfl

@[simp] theorem State.clearCadence_tuner (s : State) :
    (s.clearCadence).tuner = s.tuner := rfl

@[simp] theorem State.clearCadence_exit (s : State) :
    (s.clearCadence).exit = s.exit := rfl

@[simp] theorem State.clearCadence_line (s : State) :
    (s.clearCadence).line = s.line := rfl

@[simp] theorem State.clearCadence_link (s : State) :
    (s.clearCadence).link = s.link := rfl

@[simp] theorem State.clearCadence_restart (s : State) :
    (s.clearCadence).restart = s.restart := rfl

@[simp] theorem State.clearCadence_mail (s : State) :
    (s.clearCadence).mail = s.mail := rfl

@[simp] theorem State.clearCadence_pins (s : State) :
    (s.clearCadence).pins = s.pins := rfl

@[simp] theorem State.clearCadence_sent (s : State) :
    (s.clearCadence).sent = s.sent := rfl

/-! ### `State.enterHold` -/

@[simp] theorem State.enterHold_pending (s : State) (c : HoldCause) :
    (s.enterHold c).pending = s.pending := rfl

@[simp] theorem State.enterHold_clock (s : State) (c : HoldCause) :
    (s.enterHold c).clock = s.clock := rfl

@[simp] theorem State.enterHold_pool (s : State) (c : HoldCause) :
    (s.enterHold c).pool = s.pool := rfl

@[simp] theorem State.enterHold_recipes (s : State) (c : HoldCause) :
    (s.enterHold c).recipes = s.recipes := rfl

@[simp] theorem State.enterHold_row (s : State) (c : HoldCause) :
    (s.enterHold c).row = s.row := rfl

@[simp] theorem State.enterHold_zones (s : State) (c : HoldCause) :
    (s.enterHold c).zones = s.zones := rfl

@[simp] theorem State.enterHold_feeder (s : State) (c : HoldCause) :
    (s.enterHold c).feeder = s.feeder := rfl

@[simp] theorem State.enterHold_tuner (s : State) (c : HoldCause) :
    (s.enterHold c).tuner = s.tuner := rfl

@[simp] theorem State.enterHold_exit (s : State) (c : HoldCause) :
    (s.enterHold c).exit = s.exit := rfl

@[simp] theorem State.enterHold_restart (s : State) (c : HoldCause) :
    (s.enterHold c).restart = s.restart := rfl

@[simp] theorem State.enterHold_mail (s : State) (c : HoldCause) :
    (s.enterHold c).mail = s.mail := rfl

@[simp] theorem State.enterHold_pins (s : State) (c : HoldCause) :
    (s.enterHold c).pins = s.pins := rfl

@[simp] theorem State.enterHold_sent (s : State) (c : HoldCause) :
    (s.enterHold c).sent = s.sent := rfl

/-! ### `State.enterTripped` -/

@[simp] theorem State.enterTripped_pending (s : State) (c : TripCause) :
    (s.enterTripped c).pending = s.pending := rfl

@[simp] theorem State.enterTripped_clock (s : State) (c : TripCause) :
    (s.enterTripped c).clock = s.clock := rfl

@[simp] theorem State.enterTripped_pool (s : State) (c : TripCause) :
    (s.enterTripped c).pool = s.pool := rfl

@[simp] theorem State.enterTripped_recipes (s : State) (c : TripCause) :
    (s.enterTripped c).recipes = s.recipes := rfl

@[simp] theorem State.enterTripped_row (s : State) (c : TripCause) :
    (s.enterTripped c).row = s.row := rfl

@[simp] theorem State.enterTripped_feeder (s : State) (c : TripCause) :
    (s.enterTripped c).feeder = s.feeder := rfl

@[simp] theorem State.enterTripped_tuner (s : State) (c : TripCause) :
    (s.enterTripped c).tuner = s.tuner := rfl

@[simp] theorem State.enterTripped_exit (s : State) (c : TripCause) :
    (s.enterTripped c).exit = s.exit := rfl

@[simp] theorem State.enterTripped_restart (s : State) (c : TripCause) :
    (s.enterTripped c).restart = s.restart := rfl

@[simp] theorem State.enterTripped_pins (s : State) (c : TripCause) :
    (s.enterTripped c).pins = s.pins := rfl

/-! ### `State.enterStopped` -/

@[simp] theorem State.enterStopped_pending (s : State) :
    (s.enterStopped).pending = s.pending := rfl

@[simp] theorem State.enterStopped_clock (s : State) :
    (s.enterStopped).clock = s.clock := rfl

@[simp] theorem State.enterStopped_pool (s : State) :
    (s.enterStopped).pool = s.pool := rfl

@[simp] theorem State.enterStopped_recipes (s : State) :
    (s.enterStopped).recipes = s.recipes := rfl

@[simp] theorem State.enterStopped_row (s : State) :
    (s.enterStopped).row = s.row := rfl

@[simp] theorem State.enterStopped_zones (s : State) :
    (s.enterStopped).zones = s.zones := rfl

@[simp] theorem State.enterStopped_feeder (s : State) :
    (s.enterStopped).feeder = s.feeder := rfl

@[simp] theorem State.enterStopped_tuner (s : State) :
    (s.enterStopped).tuner = s.tuner := rfl

@[simp] theorem State.enterStopped_exit (s : State) :
    (s.enterStopped).exit = s.exit := rfl

@[simp] theorem State.enterStopped_link (s : State) :
    (s.enterStopped).link = s.link := rfl

@[simp] theorem State.enterStopped_restart (s : State) :
    (s.enterStopped).restart = s.restart := rfl

@[simp] theorem State.enterStopped_mail (s : State) :
    (s.enterStopped).mail = s.mail := rfl

@[simp] theorem State.enterStopped_pins (s : State) :
    (s.enterStopped).pins = s.pins := rfl

@[simp] theorem State.enterStopped_sent (s : State) :
    (s.enterStopped).sent = s.sent := rfl

/-! ### `State.enterService` -/

@[simp] theorem State.enterService_pending (s : State) :
    (s.enterService).pending = s.pending := rfl

@[simp] theorem State.enterService_clock (s : State) :
    (s.enterService).clock = s.clock := rfl

@[simp] theorem State.enterService_pool (s : State) :
    (s.enterService).pool = s.pool := rfl

@[simp] theorem State.enterService_recipes (s : State) :
    (s.enterService).recipes = s.recipes := rfl

@[simp] theorem State.enterService_row (s : State) :
    (s.enterService).row = s.row := rfl

@[simp] theorem State.enterService_zones (s : State) :
    (s.enterService).zones = s.zones := rfl

@[simp] theorem State.enterService_feeder (s : State) :
    (s.enterService).feeder = s.feeder := rfl

@[simp] theorem State.enterService_tuner (s : State) :
    (s.enterService).tuner = s.tuner := rfl

@[simp] theorem State.enterService_exit (s : State) :
    (s.enterService).exit = s.exit := rfl

@[simp] theorem State.enterService_link (s : State) :
    (s.enterService).link = s.link := rfl

@[simp] theorem State.enterService_restart (s : State) :
    (s.enterService).restart = s.restart := rfl

@[simp] theorem State.enterService_mail (s : State) :
    (s.enterService).mail = s.mail := rfl

@[simp] theorem State.enterService_pins (s : State) :
    (s.enterService).pins = s.pins := rfl

@[simp] theorem State.enterService_sent (s : State) :
    (s.enterService).sent = s.sent := rfl

/-! ### `State.drainTest` -/

@[simp] theorem State.drainTest_pending (s : State) :
    (s.drainTest).pending = s.pending := by
  simp only [State.drainTest]; split <;> simp

@[simp] theorem State.drainTest_clock (s : State) :
    (s.drainTest).clock = s.clock := by
  simp only [State.drainTest]; split <;> simp

@[simp] theorem State.drainTest_pool (s : State) :
    (s.drainTest).pool = s.pool := by
  simp only [State.drainTest]; split <;> simp

@[simp] theorem State.drainTest_recipes (s : State) :
    (s.drainTest).recipes = s.recipes := by
  simp only [State.drainTest]; split <;> simp

@[simp] theorem State.drainTest_row (s : State) :
    (s.drainTest).row = s.row := by
  simp only [State.drainTest]; split <;> simp

@[simp] theorem State.drainTest_zones (s : State) :
    (s.drainTest).zones = s.zones := by
  simp only [State.drainTest]; split <;> simp

@[simp] theorem State.drainTest_feeder (s : State) :
    (s.drainTest).feeder = s.feeder := by
  simp only [State.drainTest]; split <;> simp

@[simp] theorem State.drainTest_tuner (s : State) :
    (s.drainTest).tuner = s.tuner := by
  simp only [State.drainTest]; split <;> simp

@[simp] theorem State.drainTest_exit (s : State) :
    (s.drainTest).exit = s.exit := by
  simp only [State.drainTest]; split <;> simp

@[simp] theorem State.drainTest_link (s : State) :
    (s.drainTest).link = s.link := by
  simp only [State.drainTest]; split <;> simp

@[simp] theorem State.drainTest_restart (s : State) :
    (s.drainTest).restart = s.restart := by
  simp only [State.drainTest]; split <;> simp

@[simp] theorem State.drainTest_mail (s : State) :
    (s.drainTest).mail = s.mail := by
  simp only [State.drainTest]; split <;> simp

@[simp] theorem State.drainTest_pins (s : State) :
    (s.drainTest).pins = s.pins := by
  simp only [State.drainTest]; split <;> simp

@[simp] theorem State.drainTest_sent (s : State) :
    (s.drainTest).sent = s.sent := by
  simp only [State.drainTest]; split <;> simp

/-! ### `State.pointLowest` -/

@[simp] theorem State.pointLowest_pending (s : State) :
    (s.pointLowest).pending = s.pending := rfl

@[simp] theorem State.pointLowest_clock (s : State) :
    (s.pointLowest).clock = s.clock := rfl

@[simp] theorem State.pointLowest_pool (s : State) :
    (s.pointLowest).pool = s.pool := rfl

@[simp] theorem State.pointLowest_recipes (s : State) :
    (s.pointLowest).recipes = s.recipes := rfl

@[simp] theorem State.pointLowest_row (s : State) :
    (s.pointLowest).row = s.row := rfl

@[simp] theorem State.pointLowest_zones (s : State) :
    (s.pointLowest).zones = s.zones := rfl

@[simp] theorem State.pointLowest_feeder (s : State) :
    (s.pointLowest).feeder = s.feeder := rfl

@[simp] theorem State.pointLowest_exit (s : State) :
    (s.pointLowest).exit = s.exit := rfl

@[simp] theorem State.pointLowest_line (s : State) :
    (s.pointLowest).line = s.line := rfl

@[simp] theorem State.pointLowest_link (s : State) :
    (s.pointLowest).link = s.link := rfl

@[simp] theorem State.pointLowest_restart (s : State) :
    (s.pointLowest).restart = s.restart := rfl

@[simp] theorem State.pointLowest_mail (s : State) :
    (s.pointLowest).mail = s.mail := rfl

@[simp] theorem State.pointLowest_pins (s : State) :
    (s.pointLowest).pins = s.pins := rfl

@[simp] theorem State.pointLowest_sent (s : State) :
    (s.pointLowest).sent = s.sent := rfl

/-! ### `State.arrive` -/

@[simp] theorem State.arrive_pending (s : State) (tag : Nat) :
    (s.arrive tag).pending = s.pending := rfl

@[simp] theorem State.arrive_clock (s : State) (tag : Nat) :
    (s.arrive tag).clock = s.clock := rfl

@[simp] theorem State.arrive_recipes (s : State) (tag : Nat) :
    (s.arrive tag).recipes = s.recipes := rfl

@[simp] theorem State.arrive_row (s : State) (tag : Nat) :
    (s.arrive tag).row = s.row := rfl

@[simp] theorem State.arrive_zones (s : State) (tag : Nat) :
    (s.arrive tag).zones = s.zones := rfl

@[simp] theorem State.arrive_feeder (s : State) (tag : Nat) :
    (s.arrive tag).feeder = s.feeder := rfl

@[simp] theorem State.arrive_tuner (s : State) (tag : Nat) :
    (s.arrive tag).tuner = s.tuner := rfl

@[simp] theorem State.arrive_line (s : State) (tag : Nat) :
    (s.arrive tag).line = s.line := rfl

@[simp] theorem State.arrive_link (s : State) (tag : Nat) :
    (s.arrive tag).link = s.link := rfl

@[simp] theorem State.arrive_restart (s : State) (tag : Nat) :
    (s.arrive tag).restart = s.restart := rfl

@[simp] theorem State.arrive_mail (s : State) (tag : Nat) :
    (s.arrive tag).mail = s.mail := rfl

@[simp] theorem State.arrive_pins (s : State) (tag : Nat) :
    (s.arrive tag).pins = s.pins := rfl

@[simp] theorem State.arrive_sent (s : State) (tag : Nat) :
    (s.arrive tag).sent = s.sent := rfl

/-! ### `State.enterRejecting` -/

@[simp] theorem State.enterRejecting_pending (s : State) (tag : Nat) (o : BilletOutcome) :
    (s.enterRejecting tag o).pending = s.pending := rfl

@[simp] theorem State.enterRejecting_clock (s : State) (tag : Nat) (o : BilletOutcome) :
    (s.enterRejecting tag o).clock = s.clock := rfl

@[simp] theorem State.enterRejecting_recipes (s : State) (tag : Nat) (o : BilletOutcome) :
    (s.enterRejecting tag o).recipes = s.recipes := rfl

@[simp] theorem State.enterRejecting_row (s : State) (tag : Nat) (o : BilletOutcome) :
    (s.enterRejecting tag o).row = s.row := rfl

@[simp] theorem State.enterRejecting_zones (s : State) (tag : Nat) (o : BilletOutcome) :
    (s.enterRejecting tag o).zones = s.zones := rfl

@[simp] theorem State.enterRejecting_feeder (s : State) (tag : Nat) (o : BilletOutcome) :
    (s.enterRejecting tag o).feeder = s.feeder := rfl

@[simp] theorem State.enterRejecting_tuner (s : State) (tag : Nat) (o : BilletOutcome) :
    (s.enterRejecting tag o).tuner = s.tuner := rfl

@[simp] theorem State.enterRejecting_line (s : State) (tag : Nat) (o : BilletOutcome) :
    (s.enterRejecting tag o).line = s.line := rfl

@[simp] theorem State.enterRejecting_restart (s : State) (tag : Nat) (o : BilletOutcome) :
    (s.enterRejecting tag o).restart = s.restart := rfl

@[simp] theorem State.enterRejecting_mail (s : State) (tag : Nat) (o : BilletOutcome) :
    (s.enterRejecting tag o).mail = s.mail := rfl

@[simp] theorem State.enterRejecting_pins (s : State) (tag : Nat) (o : BilletOutcome) :
    (s.enterRejecting tag o).pins = s.pins := rfl

@[simp] theorem State.enterRejecting_sent (s : State) (tag : Nat) (o : BilletOutcome) :
    (s.enterRejecting tag o).sent = s.sent := rfl

/-! ### `State.enterRun` -/

@[simp] theorem State.enterRun_pending (s : State) :
    (s.enterRun).pending = s.pending := by
  simp [State.enterRun]

@[simp] theorem State.enterRun_clock (s : State) :
    (s.enterRun).clock = s.clock := by
  simp [State.enterRun]

@[simp] theorem State.enterRun_pool (s : State) :
    (s.enterRun).pool = s.pool := by
  simp [State.enterRun]

@[simp] theorem State.enterRun_recipes (s : State) :
    (s.enterRun).recipes = s.recipes := by
  simp [State.enterRun]

@[simp] theorem State.enterRun_zones (s : State) :
    (s.enterRun).zones = s.zones := by
  simp [State.enterRun]

@[simp] theorem State.enterRun_feeder (s : State) :
    (s.enterRun).feeder = s.feeder := by
  simp [State.enterRun]

@[simp] theorem State.enterRun_tuner (s : State) :
    (s.enterRun).tuner = s.tuner := by
  simp [State.enterRun]

@[simp] theorem State.enterRun_exit (s : State) :
    (s.enterRun).exit = s.exit := by
  simp [State.enterRun]

@[simp] theorem State.enterRun_link (s : State) :
    (s.enterRun).link = s.link := by
  simp [State.enterRun]

@[simp] theorem State.enterRun_restart (s : State) :
    (s.enterRun).restart = s.restart := by
  simp [State.enterRun]

@[simp] theorem State.enterRun_mail (s : State) :
    (s.enterRun).mail = s.mail := by
  simp [State.enterRun]

@[simp] theorem State.enterRun_pins (s : State) :
    (s.enterRun).pins = s.pins := by
  simp [State.enterRun]

@[simp] theorem State.enterRun_sent (s : State) :
    (s.enterRun).sent = s.sent := by
  simp [State.enterRun]

/-! ### `State.enterDrain` -/

@[simp] theorem State.enterDrain_pending (s : State) :
    (s.enterDrain).pending = s.pending := by
  simp only [State.enterDrain]; split <;> simp

@[simp] theorem State.enterDrain_clock (s : State) :
    (s.enterDrain).clock = s.clock := by
  simp only [State.enterDrain]; split <;> simp

@[simp] theorem State.enterDrain_pool (s : State) :
    (s.enterDrain).pool = s.pool := by
  simp only [State.enterDrain]; split <;> simp

@[simp] theorem State.enterDrain_recipes (s : State) :
    (s.enterDrain).recipes = s.recipes := by
  simp only [State.enterDrain]; split <;> simp

@[simp] theorem State.enterDrain_row (s : State) :
    (s.enterDrain).row = s.row := by
  simp only [State.enterDrain]; split <;> simp

@[simp] theorem State.enterDrain_zones (s : State) :
    (s.enterDrain).zones = s.zones := by
  simp only [State.enterDrain]; split <;> simp

@[simp] theorem State.enterDrain_feeder (s : State) :
    (s.enterDrain).feeder = s.feeder := by
  simp only [State.enterDrain]; split <;> simp

@[simp] theorem State.enterDrain_tuner (s : State) :
    (s.enterDrain).tuner = s.tuner := by
  simp only [State.enterDrain]; split <;> simp

@[simp] theorem State.enterDrain_exit (s : State) :
    (s.enterDrain).exit = s.exit := by
  simp only [State.enterDrain]; split <;> simp

@[simp] theorem State.enterDrain_link (s : State) :
    (s.enterDrain).link = s.link := by
  simp only [State.enterDrain]; split <;> simp

@[simp] theorem State.enterDrain_restart (s : State) :
    (s.enterDrain).restart = s.restart := by
  simp only [State.enterDrain]; split <;> simp

@[simp] theorem State.enterDrain_mail (s : State) :
    (s.enterDrain).mail = s.mail := by
  simp only [State.enterDrain]; split <;> simp

@[simp] theorem State.enterDrain_pins (s : State) :
    (s.enterDrain).pins = s.pins := by
  simp only [State.enterDrain]; split <;> simp

@[simp] theorem State.enterDrain_sent (s : State) :
    (s.enterDrain).sent = s.sent := by
  simp only [State.enterDrain]; split <;> simp

/-! ### `State.serveTake` -/

@[simp] theorem State.serveTake_pending (s : State) :
    (s.serveTake).pending = s.pending := by
  unfold State.serveTake; split
  · split
    · rfl
    · split <;> simp
  · rfl

@[simp] theorem State.serveTake_clock (s : State) :
    (s.serveTake).clock = s.clock := by
  unfold State.serveTake; split
  · split
    · rfl
    · split <;> simp
  · rfl

@[simp] theorem State.serveTake_recipes (s : State) :
    (s.serveTake).recipes = s.recipes := by
  unfold State.serveTake; split
  · split
    · rfl
    · split <;> simp
  · rfl

@[simp] theorem State.serveTake_row (s : State) :
    (s.serveTake).row = s.row := by
  unfold State.serveTake; split
  · split
    · rfl
    · split <;> simp
  · rfl

@[simp] theorem State.serveTake_zones (s : State) :
    (s.serveTake).zones = s.zones := by
  unfold State.serveTake; split
  · split
    · rfl
    · split <;> simp
  · rfl

@[simp] theorem State.serveTake_feeder (s : State) :
    (s.serveTake).feeder = s.feeder := by
  unfold State.serveTake; split
  · split
    · rfl
    · split <;> simp
  · rfl

@[simp] theorem State.serveTake_tuner (s : State) :
    (s.serveTake).tuner = s.tuner := by
  unfold State.serveTake; split
  · split
    · rfl
    · split <;> simp
  · rfl

@[simp] theorem State.serveTake_line (s : State) :
    (s.serveTake).line = s.line := by
  unfold State.serveTake; split
  · split
    · rfl
    · split <;> simp
  · rfl

@[simp] theorem State.serveTake_restart (s : State) :
    (s.serveTake).restart = s.restart := by
  unfold State.serveTake; split
  · split
    · rfl
    · split <;> simp
  · rfl

@[simp] theorem State.serveTake_mail (s : State) :
    (s.serveTake).mail = s.mail := by
  unfold State.serveTake; split
  · split
    · rfl
    · split <;> simp
  · rfl

@[simp] theorem State.serveTake_pins (s : State) :
    (s.serveTake).pins = s.pins := by
  unfold State.serveTake; split
  · split
    · rfl
    · split <;> simp
  · rfl

@[simp] theorem State.serveTake_sent (s : State) :
    (s.serveTake).sent = s.sent := by
  unfold State.serveTake; split
  · split
    · rfl
    · split <;> simp
  · rfl

/-! ### `State.vacate` -/

@[simp] theorem State.vacate_pending (s : State) (o : BilletOutcome) :
    (s.vacate o).pending = s.pending := by
  unfold State.vacate; cases s.exit.slot <;> simp

@[simp] theorem State.vacate_clock (s : State) (o : BilletOutcome) :
    (s.vacate o).clock = s.clock := by
  unfold State.vacate; cases s.exit.slot <;> simp

@[simp] theorem State.vacate_row (s : State) (o : BilletOutcome) :
    (s.vacate o).row = s.row := by
  unfold State.vacate; cases s.exit.slot <;> simp

@[simp] theorem State.vacate_zones (s : State) (o : BilletOutcome) :
    (s.vacate o).zones = s.zones := by
  unfold State.vacate; cases s.exit.slot <;> simp

@[simp] theorem State.vacate_feeder (s : State) (o : BilletOutcome) :
    (s.vacate o).feeder = s.feeder := by
  unfold State.vacate; cases s.exit.slot <;> simp

@[simp] theorem State.vacate_tuner (s : State) (o : BilletOutcome) :
    (s.vacate o).tuner = s.tuner := by
  unfold State.vacate; cases s.exit.slot <;> simp

@[simp] theorem State.vacate_line (s : State) (o : BilletOutcome) :
    (s.vacate o).line = s.line := by
  unfold State.vacate; cases s.exit.slot <;> simp

@[simp] theorem State.vacate_restart (s : State) (o : BilletOutcome) :
    (s.vacate o).restart = s.restart := by
  unfold State.vacate; cases s.exit.slot <;> simp

@[simp] theorem State.vacate_mail (s : State) (o : BilletOutcome) :
    (s.vacate o).mail = s.mail := by
  unfold State.vacate; cases s.exit.slot <;> simp

@[simp] theorem State.vacate_pins (s : State) (o : BilletOutcome) :
    (s.vacate o).pins = s.pins := by
  unfold State.vacate; cases s.exit.slot <;> simp

@[simp] theorem State.vacate_sent (s : State) (o : BilletOutcome) :
    (s.vacate o).sent = s.sent := by
  unfold State.vacate; cases s.exit.slot <;> simp

/-! ### `State.endTransfer` -/

@[simp] theorem State.endTransfer_pending (s : State) (o : BilletOutcome) :
    (s.endTransfer o).pending = s.pending := by
  simp [State.endTransfer]

@[simp] theorem State.endTransfer_clock (s : State) (o : BilletOutcome) :
    (s.endTransfer o).clock = s.clock := by
  simp [State.endTransfer]

@[simp] theorem State.endTransfer_row (s : State) (o : BilletOutcome) :
    (s.endTransfer o).row = s.row := by
  simp [State.endTransfer]

@[simp] theorem State.endTransfer_zones (s : State) (o : BilletOutcome) :
    (s.endTransfer o).zones = s.zones := by
  simp [State.endTransfer]

@[simp] theorem State.endTransfer_feeder (s : State) (o : BilletOutcome) :
    (s.endTransfer o).feeder = s.feeder := by
  simp [State.endTransfer]

@[simp] theorem State.endTransfer_tuner (s : State) (o : BilletOutcome) :
    (s.endTransfer o).tuner = s.tuner := by
  simp [State.endTransfer]

@[simp] theorem State.endTransfer_restart (s : State) (o : BilletOutcome) :
    (s.endTransfer o).restart = s.restart := by
  simp [State.endTransfer]

@[simp] theorem State.endTransfer_mail (s : State) (o : BilletOutcome) :
    (s.endTransfer o).mail = s.mail := by
  simp [State.endTransfer]

@[simp] theorem State.endTransfer_pins (s : State) (o : BilletOutcome) :
    (s.endTransfer o).pins = s.pins := by
  simp [State.endTransfer]

@[simp] theorem State.endTransfer_sent (s : State) (o : BilletOutcome) :
    (s.endTransfer o).sent = s.sent := by
  simp [State.endTransfer]

end Sys2Proof.Machine
end

