-- ==== Sys2Proof/Laws/Ops.lean ====
section
/-! SUPPORT. Laws/Ops.lean: for each shared operation, one lemma that says what it does, for the provers
to cite instead of unfolding it. -/

namespace Sys2Proof.Machine

/-! ## Events and transactions (R167, R172, R175, R182) -/

theorem State.event_open {s : State} (h : s.restart.hold = none) (f : State → State) :
    s.event f = .next (f s) := by
  simp [State.event, State.held, h]

theorem State.event_held {s : State} (h : s.restart.hold.isSome = true) (f : State → State) :
    s.event f = .next s := by
  simp [State.event, State.held, h]

theorem State.transaction_taking {s : State} {c : Nat} (h : s.Taking c) (act : State → State) :
    s.transaction c act = .next (act (s.settleFetch c)) := by
  have hc : c ≠ 0 := Nat.pos_iff_ne_zero.mp h.1
  simp [State.transaction, State.held, h.2, hc]

theorem State.transaction_held {s : State} {c : Nat} (h : s.restart.hold.isSome = true)
    (act : State → State) :
    s.transaction c act = .next (if c = 0 then s else s.shiftEmpty c) := by
  simp [State.transaction, State.held, h]

theorem State.transaction_unclocked (s : State) (act : State → State) :
    s.transaction 0 act = .next s := by
  simp [State.transaction]

theorem State.request_taking {s : State} {c : Nat} (h : s.Taking c)
    (act : State → Response × State) :
    s.request c act = .next ((act (s.settleFetch c)).2.respond (act (s.settleFetch c)).1) := by
  simp [State.request, State.transaction_taking h]

/-- A response put into the buffer once the fetch is settled leaves `answered`. -/
theorem State.settleFetch_respond (s : State) (c : Nat) (r : Response) :
    (s.settleFetch c).respond r = s.answered c r := by
  unfold State.settleFetch State.respond State.answered LineLink.answered LineLink.leavesUnfetched
  cases hb : s.link.buffer with
  | none => simp
  | some q =>
      by_cases hq : q.frame.length ≤ c
      · simp [hq, Nat.not_lt.mpr hq]
      · simp [hq, Nat.not_le.mp hq]

/-- The response settles the link as `answered` does whatever the request changed in the other blocks. -/
theorem State.respond_link {s t : State} (c : Nat) (r : Response)
    (h : t.link = (s.settleFetch c).link) : (t.respond r).link = s.link.answered c r := by
  have key := congrArg State.link (State.settleFetch_respond s c r)
  simp only [State.respond, State.answered] at key ⊢
  rw [h]
  exact key

/-! ## Power-on reset (R165) -/

/-- Power-on reset begins to hold the part: the restart block alone changes. -/
theorem State.holdPowerOn_unchangedBut (s : State) : UnchangedBut [.restart] s s.holdPowerOn := by
  intro b hb
  cases b <;> first | rfl | exact absurd (by decide) hb

@[simp] theorem State.holdPowerOn_hold (s : State) : s.holdPowerOn.restart.hold = some .powerOn := rfl

@[simp] theorem State.holdPowerOn_held (s : State) : s.holdPowerOn.held = true := rfl

/-! ## Demand (R24, R78) -/

theorem State.needsOf_disabled {s : State} {z : ZoneId} (h : s.zones[z].map.enabled = false) :
    s.needsOf z = [] := by
  simp only [State.needsOf, h, Bool.false_eq_true, if_false]

/-! ## Messages between blocks -/

/-- `takeFirst` takes the first message that satisfies `p` out of the list. -/
theorem takeFirst_append {α : Type} {p : α → Bool} {before after : List α} {m : α}
    (hb : ∀ x ∈ before, p x = false) (hm : p m = true) :
    takeFirst p (before ++ m :: after) = some (m, before ++ after) := by
  induction before with
  | nil => simp [takeFirst, hm]
  | cons x rest ih =>
      have hx : p x = false := hb x (by simp)
      have hr : ∀ y ∈ rest, p y = false := fun y hy => hb y (by simp [hy])
      simp [takeFirst, hx, ih hr]

theorem takeFirst_none {α : Type} {p : α → Bool} {l : List α} (h : ∀ x ∈ l, p x = false) :
    takeFirst p l = none := by
  induction l with
  | nil => rfl
  | cons x rest ih =>
      have hx : p x = false := h x (by simp)
      simp [takeFirst, hx, ih fun y hy => h y (by simp [hy])]

/-- What `takeFirst` answers: the taken message, and the list without it. -/
theorem takeFirst_some {α : Type} {p : α → Bool} {l rest : List α} {m : α}
    (h : takeFirst p l = some (m, rest)) :
    ∃ before after, l = before ++ m :: after ∧ rest = before ++ after ∧ p m = true ∧
      ∀ x ∈ before, p x = false := by
  induction l generalizing m rest with
  | nil => simp [takeFirst] at h
  | cons x xs ih =>
      by_cases hx : p x = true
      · simp only [takeFirst, hx, ↓reduceIte, Option.some.injEq, Prod.mk.injEq] at h
        obtain ⟨rfl, rfl⟩ := h
        exact ⟨[], xs, rfl, rfl, hx, by simp⟩
      · simp only [takeFirst, hx, Bool.false_eq_true, ↓reduceIte, Option.map_eq_some_iff,
          Prod.exists, Prod.mk.injEq] at h
        obtain ⟨y, left, hy, rfl, rfl⟩ := h
        obtain ⟨before, after, rfl, rfl, hp, hb⟩ := ih hy
        refine ⟨x :: before, after, rfl, rfl, hp, ?_⟩
        intro w hw
        rcases List.mem_cons.mp hw with rfl | hw
        · simpa using hx
        · exact hb w hw

/-! ## Records (R7, R8) -/

theorem State.lookup_some {s : State} {tag : Nat} {r : BilletRecord} (h : s.lookup tag = some r) :
    r ∈ s.pool.records ∧ r.tag = tag ∧ tag ≠ 0 := by
  unfold State.lookup at h
  split at h
  · cases h
  · exact ⟨List.mem_of_find?_eq_some h, by simpa using List.find?_some h, ‹_›⟩

/-- A list whose tags are distinct finds each of its records by its tag. -/
theorem find_of_distinct {records : List BilletRecord} {r : BilletRecord}
    (hn : (records.map BilletRecord.tag).Nodup) (hr : r ∈ records) :
    (records.find? fun x => x.tag == r.tag) = some r := by
  induction records with
  | nil => cases hr
  | cons x rest ih =>
      simp only [List.map_cons, List.nodup_cons, List.mem_map, not_exists, not_and] at hn
      rcases List.mem_cons.mp hr with rfl | hr
      · simp
      · have hx : x.tag ≠ r.tag := fun he => hn.1 r hr he.symm
        simp [hx, ih hn.2 hr]

theorem State.lookup_of_mem {s : State} {r : BilletRecord} (h : TagsDistinct s)
    (hr : r ∈ s.pool.records) : s.lookup r.tag = some r := by
  have ht : r.tag ≠ 0 := by have := (h.2 r hr).1; omega
  simp [State.lookup, ht, find_of_distinct h.1 hr]

theorem State.lookup_none {s : State} {tag : Nat} (h : ∀ r ∈ s.pool.records, r.tag ≠ tag) :
    s.lookup tag = none := by
  unfold State.lookup
  split
  · rfl
  · simpa using h

theorem State.lookupRef_of_mem {s : State} {r : BilletRecord} (h : TagsDistinct s)
    (hr : r ∈ s.pool.records) : s.lookupRef { tag := r.tag, loadSeq := r.loadSeq } = some r := by
  simp [State.lookupRef, State.lookup_of_mem h hr]

/-- Under distinct tags, a record is the only one with its tag. -/
theorem TagsDistinct.unique {s : State} (h : TagsDistinct s) {r x : BilletRecord}
    (hr : r ∈ s.pool.records) (hx : x ∈ s.pool.records) (ht : x.tag = r.tag) : x = r := by
  have h1 := State.lookup_of_mem h hr
  have h2 := State.lookup_of_mem h hx
  rw [ht] at h2
  exact Option.some.inj (h2.symm.trans h1)

/-- Under distinct tags, changing the record of a tag replaces that record alone. -/
theorem modify_eq_replace {s : State} (h : TagsDistinct s) {r : BilletRecord}
    (hr : r ∈ s.pool.records) (f : BilletRecord → BilletRecord) :
    (s.pool.records.map fun x => if x.tag = r.tag then f x else x) =
      s.pool.records.map fun x => if x.tag = r.tag then f r else x := by
  apply List.map_congr_left
  intro x hx
  split
  · rename_i ht; rw [h.unique hr hx ht]
  · rfl

/-- Retirement of a live record, whole (R19, R29). -/
theorem State.retire_of_lookup {s : State} {tag : Nat} {r : BilletRecord} (o : BilletOutcome)
    (h : s.lookup tag = some r) :
    s.retire tag o = { s with
      pool := { s.pool with
        records := s.pool.records.filter fun x => x.tag != tag
        lastRetired := some { r with outcome := some o }
        outcomes := s.pool.outcomes.set o.counter (min 65535 (s.pool.outcomes[o.counter] + 1)) }
      recipes := s.recipes.set r.recipe
        { s.recipes[r.recipe] with users := s.recipes[r.recipe].users - 1 }
      link := { s.link with flags := s.link.flags ||| 1 } } := by
  simp only [State.retire, h]
  rfl

/-! ## Time (R164, R93) -/

@[simp] theorem ZoneChannel.accrue_state (o a b : Nat) (z : ZoneChannel) :
    (z.accrue o a b).state = z.state := by
  unfold ZoneChannel.accrue; split <;> rfl

/-- Time changes nothing of a channel but its count of quanta. -/
theorem ZoneChannel.accrue_eq (o a b : Nat) (z : ZoneChannel) :
    z.accrue o a b = { z with qOn := (z.accrue o a b).qOn } := by
  unfold ZoneChannel.accrue; split <;> rfl

@[simp] theorem State.elapse_zone (s : State) (n : Nat) (z : ZoneId) :
    (s.elapse n).zones[z] =
      s.zones[z].accrue s.feeder.roundStart s.clock.count
        (satAdd Config.timeMax s.clock.count n) := by
  simp [State.elapse]

theorem State.reach_count {s : State} {due : Nat} (h : s.clock.count ≤ due)
    (hm : due ≤ Config.timeMax) : (s.reach due).clock.count = due := by
  simp only [State.reach, State.elapse, satAdd]
  omega

/-! ## Zone channels -/

@[simp] theorem State.modifyZone_same (s : State) (z : ZoneId) (f : ZoneChannel → ZoneChannel) :
    (s.modifyZone z f).zones[z] = f s.zones[z] := by
  simp [State.modifyZone]

theorem State.modifyZone_other (s : State) {y z : ZoneId} (h : y ≠ z)
    (f : ZoneChannel → ZoneChannel) : (s.modifyZone z f).zones[y] = s.zones[y] := by
  have hv : z.val ≠ y.val := fun e => h (Fin.ext e.symm)
  simp [State.modifyZone, hv]

theorem State.stopAll_zone (s : State) (z : ZoneId) :
    s.stopAll.zones[z] = s.zones[z].stopAll s.clock.count := by
  simp [State.stopAll]

theorem ZoneState.stoppable_iff (z : ZoneState) :
    z.stoppable = true ↔ z = .starting ∨ z = .on ∨ z = .tuning := by
  cases z <;> simp [ZoneState.stoppable]

/-- Stop-all as R98's table says it. -/
theorem State.stopAll_taken (s : State) : StopAllTaken s s.stopAll := by
  have hs : ∀ z : ZoneId, decide (s.zones[z].state = .starting ∨ s.zones[z].state = .on ∨
      s.zones[z].state = .tuning) = s.zones[z].state.stoppable := by
    intro z
    rw [Bool.eq_iff_iff, decide_eq_true_iff, ZoneState.stoppable_iff]
  refine ⟨?_, ?_, rfl⟩
  · intro z
    rw [State.stopAll_zone]
    simp only [hs]
    generalize s.zones[z] = c
    unfold ZoneChannel.stopAll
    split
    · simp [ZoneChannel.toStopping, Config.recoveryMs]
    · simp
  · simp only [hs, State.stopAll]

/-! ## The line and the exit -/

theorem State.drainTest_eq (s : State) :
    s.drainTest = s ∨ s.line.mode = .drain ∧ s.lineEmpty = true ∧ s.drainTest = s.enterStopped := by
  unfold State.drainTest
  split
  · rename_i h
    simp only [Bool.and_eq_true, decide_eq_true_eq] at h
    exact .inr ⟨h.1, h.2, rfl⟩
  · exact .inl rfl

/-- The row holds no record exactly when every position is a gap. -/
theorem RowTracker.occupied_false (row : RowTracker) :
    row.occupied = false ↔ ∀ p : Fin 40, row.positions[p] = none := by
  unfold RowTracker.occupied
  rw [List.any_eq_false]
  constructor
  · intro h p
    have := h row.positions[p] (by simp)
    simpa using this
  · intro h x hx
    obtain ⟨i, hi, rfl⟩ := List.mem_iff_getElem.mp hx
    have := h ⟨i, by simpa using hi⟩
    simpa using this

theorem State.lineEmpty_iff (s : State) : s.lineEmpty = true ↔ s.Cleared := by
  unfold State.lineEmpty State.Cleared
  rw [← RowTracker.occupied_false]
  simp

/-- The hand-over of a READY billet with a take pending, or the chute (R141); nothing otherwise. -/
theorem State.serveTake_cases (s : State) :
    s.serveTake = s ∨
      s.exit.state = .ready ∧ 0 < s.exit.pendingTakes ∧ ∃ r, s.exit.slot.bind s.lookup = some r ∧
        ((∃ o, judgeReady s.recipes[r.recipe].fields r = some o ∧
            s.serveTake = s.enterRejecting r.tag o) ∨
          judgeReady s.recipes[r.recipe].fields r = none ∧
            s.serveTake = { s with exit := { s.exit with
              state := .toPress, waitRounds := none, pendingTakes := s.exit.pendingTakes - 1,
              transferTimer := some (s.clock.count + s.line.transferTimeout) } }) := by
  unfold State.serveTake
  split
  · rename_i r hs hr
    split
    · exact .inl rfl
    · rename_i hp
      refine .inr ⟨hs, Nat.pos_of_ne_zero hp, r, hr, ?_⟩
      split
      · rename_i o ho; exact .inl ⟨o, ho, rfl⟩
      · rename_i ho; exact .inr ⟨ho, rfl⟩
  · exact .inl rfl

/-- The end of a record's time at the exit (R145), for a slot that holds a live record. -/
theorem State.vacate_of_slot {s : State} {r : BilletRecord} (o : BilletOutcome) {tag : Nat}
    (hs : s.exit.slot = some tag) (h : s.lookup tag = some r) :
    s.vacate o = { s with
      pool := { s.pool with
        records := s.pool.records.filter fun x => x.tag != tag
        lastRetired := some { r with outcome := some o }
        outcomes := s.pool.outcomes.set o.counter (min 65535 (s.pool.outcomes[o.counter] + 1)) }
      recipes := s.recipes.set r.recipe
        { s.recipes[r.recipe] with users := s.recipes[r.recipe].users - 1 }
      link := { s.link with flags := s.link.flags ||| 1 }
      exit := { s.exit with
        slot := none, state := .empty, waitRounds := none, windowTimer := none,
        transferTimer := none } } := by
  simp only [State.vacate, hs, Option.map_some, Option.getD_some, State.retire_of_lookup o h]

/-! ## Commands one after another, catch-up, and the reported settlement -/

@[simp] theorem State.afterAll_nil (s : State) : s.afterAll [] = s := rfl

theorem State.afterAll_cons {s t : State} {i : Instr} (h : exec i s = .next t) (rest : List Instr) :
    s.afterAll (i :: rest) = t.afterAll rest := by
  simp only [State.afterAll, List.foldl_cons, h]

/-- Repeated steps are the step's iterate (R170). -/
theorem repeatStep_eq_iterate (step : BilletRecord → BilletRecord) :
    ∀ (n : Nat) (r : BilletRecord), repeatStep step n r = step^[n] r
  | 0, _ => rfl
  | n + 1, r => by rw [repeatStep, repeatStep_eq_iterate step n, Function.iterate_succ_apply]

/-- Catch-up steps a record with its own recipe throughout (R170). -/
theorem State.stepped_iterate (s : State) (band : Option Band) (energy : Nat) :
    ∀ (n : Nat) (r : BilletRecord), (s.stepped band energy)^[n] r =
      (thermalStep s.recipes[r.recipe].fields s.line.tAmb s.line.mode band energy)^[n] r
  | 0, _ => rfl
  | n + 1, r => by
    rw [Function.iterate_succ_apply, Function.iterate_succ_apply, State.stepped_iterate s band energy n]
    rfl

/-- What READ_LINE reports of the settlement record (R116). -/
theorem State.reportedSettlement_cases (s : State) :
    s.feeder.settlement = some s.reportedSettlement ∨
      s.feeder.settlement = none ∧ s.reportedSettlement.roundTime = 0 ∧
        ∀ z : ZoneId, s.reportedSettlement.zones[z] = none := by
  unfold State.reportedSettlement
  cases s.feeder.settlement with
  | some record => exact .inl rfl
  | none => exact .inr ⟨rfl, rfl, fun z => by simp⟩

end Sys2Proof.Machine
end

