-- ==== Sys2Proof/Laws/PerInstr.lean ====
section
/-! SUPPORT. Laws/PerInstr.lean: laws of the commands as syntax, one lemma for each constructor. -/

namespace Sys2Proof.Laws

/-- A request's payload has the length the catalogue gives its code (section 11.3); a command that is no
request has no frame. -/
def PayloadLength.Statement (i : Instr) : Prop :=
  ∀ (clocked code : Nat) (payload : List Byte), requestParts i = some (clocked, code, payload) →
    payloadLength code = some payload.length

theorem PayloadLength.powerOnReset (edge : PowerOnEdge) :
    PayloadLength.Statement (.powerOnReset edge) := nofun

theorem PayloadLength.ctrlResetAsserted : PayloadLength.Statement .ctrlResetAsserted := nofun

theorem PayloadLength.restartRelease (retireFirst : Bool) :
    PayloadLength.Statement (.restartRelease retireFirst) := nofun

theorem PayloadLength.frameError (check : FrameCheck) (clocked : Nat) :
    PayloadLength.Statement (.frameError check clocked) := nofun

theorem PayloadLength.nop (clocked : Nat) : PayloadLength.Statement (.nop clocked) := by
  intro c code p h; cases h; rfl

theorem PayloadLength.readStatus (clocked : Nat) :
    PayloadLength.Statement (.readStatus clocked) := by
  intro c code p h; cases h; rfl

theorem PayloadLength.loadBillet (clocked tag recipe mass initial : Nat) :
    PayloadLength.Statement (.loadBillet clocked tag recipe mass initial) := by
  intro c code p h; cases h; rfl

theorem PayloadLength.queryBillet (clocked tag : Nat) :
    PayloadLength.Statement (.queryBillet clocked tag) := by
  intro c code p h; cases h; rfl

theorem PayloadLength.queryPosition (clocked position : Nat) :
    PayloadLength.Statement (.queryPosition clocked position) := by
  intro c code p h; cases h; rfl

theorem PayloadLength.queryRow (clocked : Nat) :
    PayloadLength.Statement (.queryRow clocked) := by
  intro c code p h; cases h; rfl

theorem PayloadLength.amendBillet (clocked tag parts : Nat) (offset : Int) (recipe : Nat) :
    PayloadLength.Statement (.amendBillet clocked tag parts offset recipe) := by
  intro c code p h; cases h; rfl

theorem PayloadLength.withdrawBillet (clocked tag : Nat) :
    PayloadLength.Statement (.withdrawBillet clocked tag) := by
  intro c code p h; cases h; rfl

theorem PayloadLength.readLastRetired (clocked clearCounters : Nat) :
    PayloadLength.Statement (.readLastRetired clocked clearCounters) := by
  intro c code p h; cases h; rfl

theorem PayloadLength.writeRecipe (clocked recipe validity : Nat) (fields : RecipeFields) :
    PayloadLength.Statement (.writeRecipe clocked recipe validity fields) := by
  intro c code p h
  cases h
  simp [payloadLength, RecipeFields.bytes, bytes16]

theorem PayloadLength.readRecipe (clocked recipe : Nat) :
    PayloadLength.Statement (.readRecipe clocked recipe) := by
  intro c code p h; cases h; rfl

theorem PayloadLength.resetBias (clocked selection : Nat) :
    PayloadLength.Statement (.resetBias clocked selection) := by
  intro c code p h; cases h; rfl

theorem PayloadLength.setZone (clocked zone : Nat) (fields : ZoneFields) :
    PayloadLength.Statement (.setZone clocked zone fields) := by
  intro c code p h; cases h; rfl

theorem PayloadLength.readZone (clocked zone : Nat) :
    PayloadLength.Statement (.readZone clocked zone) := by
  intro c code p h; cases h; rfl

theorem PayloadLength.setZoneBand (clocked zone band : Nat) :
    PayloadLength.Statement (.setZoneBand clocked zone band) := by
  intro c code p h; cases h; rfl

theorem PayloadLength.clearZoneFault (clocked zone : Nat) :
    PayloadLength.Statement (.clearZoneFault clocked zone) := by
  intro c code p h; cases h; rfl

theorem PayloadLength.setRowLength (clocked value : Nat) :
    PayloadLength.Statement (.setRowLength clocked value) := by
  intro c code p h; cases h; rfl

theorem PayloadLength.setLine (clocked parts : Nat) (fields : LineFields) :
    PayloadLength.Statement (.setLine clocked parts fields) := by
  intro c code p h; cases h; rfl

theorem PayloadLength.readLine (clocked : Nat) :
    PayloadLength.Statement (.readLine clocked) := by
  intro c code p h; cases h; rfl

theorem PayloadLength.modeStart (clocked : Nat) (unnamed : Option Nat) :
    PayloadLength.Statement (.modeStart clocked unnamed) := by
  cases unnamed <;> (intro c code p h; cases h; rfl)

theorem PayloadLength.modeHold (clocked : Nat) :
    PayloadLength.Statement (.modeHold clocked) := by
  intro c code p h; cases h; rfl

theorem PayloadLength.modeResume (clocked : Nat) :
    PayloadLength.Statement (.modeResume clocked) := by
  intro c code p h; cases h; rfl

theorem PayloadLength.modeDrain (clocked : Nat) :
    PayloadLength.Statement (.modeDrain clocked) := by
  intro c code p h; cases h; rfl

theorem PayloadLength.modeTrip (clocked : Nat) :
    PayloadLength.Statement (.modeTrip clocked) := by
  intro c code p h; cases h; rfl

theorem PayloadLength.modeClearTrip (clocked : Nat) :
    PayloadLength.Statement (.modeClearTrip clocked) := by
  intro c code p h; cases h; rfl

theorem PayloadLength.modeService (clocked : Nat) :
    PayloadLength.Statement (.modeService clocked) := by
  intro c code p h; cases h; rfl

theorem PayloadLength.modeLeaveService (clocked : Nat) :
    PayloadLength.Statement (.modeLeaveService clocked) := by
  intro c code p h; cases h; rfl

theorem PayloadLength.tuneAll (clocked : Nat) : PayloadLength.Statement (.tuneAll clocked) := by
  intro c code p h; cases h; rfl

theorem PayloadLength.ackAttention (clocked flagSet : Nat) :
    PayloadLength.Statement (.ackAttention clocked flagSet) := by
  intro c code p h; cases h; rfl

theorem PayloadLength.setMasks (clocked maskSet : Nat) :
    PayloadLength.Statement (.setMasks clocked maskSet) := by
  intro c code p h; cases h; rfl

theorem PayloadLength.setEdges (clocked : Nat) (fields : EdgeFields) :
    PayloadLength.Statement (.setEdges clocked fields) := by
  intro c code p h; cases h; rfl

theorem PayloadLength.restart (clocked : Nat) : PayloadLength.Statement (.restart clocked) := by
  intro c code p h; cases h; rfl

theorem PayloadLength.strokeBegin (t : Transition) :
    PayloadLength.Statement (.strokeBegin t) := nofun

theorem PayloadLength.strokeEnd (t : Transition) : PayloadLength.Statement (.strokeEnd t) :=
  nofun

theorem PayloadLength.strokeTimerExpiry : PayloadLength.Statement .strokeTimerExpiry := nofun

theorem PayloadLength.takeEdge (t : Transition) : PayloadLength.Statement (.takeEdge t) := nofun

theorem PayloadLength.pressDoneEdge (t : Transition) :
    PayloadLength.Statement (.pressDoneEdge t) := nofun

theorem PayloadLength.chuteDoneEdge (t : Transition) :
    PayloadLength.Statement (.chuteDoneEdge t) := nofun

theorem PayloadLength.transferTimerExpiry : PayloadLength.Statement .transferTimerExpiry := nofun

theorem PayloadLength.pressReadyChange (active : Bool) :
    PayloadLength.Statement (.pressReadyChange active) := nofun

theorem PayloadLength.autoHoldExpiry : PayloadLength.Statement .autoHoldExpiry := nofun

theorem PayloadLength.feederFaultChange (active : Bool) :
    PayloadLength.Statement (.feederFaultChange active) := nofun

theorem PayloadLength.pyrometerReading (value : Nat) (valid : Bool) :
    PayloadLength.Statement (.pyrometerReading value valid) := nofun

theorem PayloadLength.measurementWindowExpiry :
    PayloadLength.Statement .measurementWindowExpiry := nofun

theorem PayloadLength.stepNotice : PayloadLength.Statement .stepNotice := nofun

theorem PayloadLength.markNotice : PayloadLength.Statement .markNotice := nofun

theorem PayloadLength.adaptationUpdate : PayloadLength.Statement .adaptationUpdate := nofun

theorem PayloadLength.roundBoundary : PayloadLength.Statement .roundBoundary := nofun

theorem PayloadLength.energyReport (zone : ZoneId) :
    PayloadLength.Statement (.energyReport zone) := nofun

theorem PayloadLength.unheatedReport : PayloadLength.Statement .unheatedReport := nofun

theorem PayloadLength.idleCredit (zone : ZoneId) :
    PayloadLength.Statement (.idleCredit zone) := nofun

theorem PayloadLength.demandReport (zone : ZoneId) :
    PayloadLength.Statement (.demandReport zone) := nofun

theorem PayloadLength.grant (zone : ZoneId) : PayloadLength.Statement (.grant zone) := nofun

theorem PayloadLength.roundNotice : PayloadLength.Statement .roundNotice := nofun

theorem PayloadLength.tuneOrder (zone : ZoneId) :
    PayloadLength.Statement (.tuneOrder zone) := nofun

theorem PayloadLength.tuneOutcome (zone : ZoneId) :
    PayloadLength.Statement (.tuneOutcome zone) := nofun

theorem PayloadLength.inverterRunning (zone : ZoneId) :
    PayloadLength.Statement (.inverterRunning zone) := nofun

theorem PayloadLength.inverterTuned (zone : ZoneId) (efficiency : Nat) :
    PayloadLength.Statement (.inverterTuned zone efficiency) := nofun

theorem PayloadLength.inverterFault (zone : ZoneId) (code : Nat) :
    PayloadLength.Statement (.inverterFault zone code) := nofun

theorem PayloadLength.inverterHealthy (zone : ZoneId) :
    PayloadLength.Statement (.inverterHealthy zone) := nofun

theorem PayloadLength.strayReport (zone : ZoneId) :
    PayloadLength.Statement (.strayReport zone) := nofun

theorem PayloadLength.startTimeout (zone : ZoneId) :
    PayloadLength.Statement (.startTimeout zone) := nofun

theorem PayloadLength.recoveryExpiry (zone : ZoneId) :
    PayloadLength.Statement (.recoveryExpiry zone) := nofun

theorem PayloadLength.tuneTimeout (zone : ZoneId) :
    PayloadLength.Statement (.tuneTimeout zone) := nofun

end Sys2Proof.Laws
end

