-- ==== Sys2Proof/Tests/Slice0.lean ====
section
/-! SUPPORT. Tests/Slice0.lean: the manual's worked examples, one refused term for each check of
WellFormed, frames written out byte by byte, and for each statement with hypotheses a concrete state and
operands that meet them, with the boundary values of its clauses. -/

namespace Sys2Proof.Tests

open Sys2Proof.Machine

/-! ## The sample line: the manual's worked restart (section 10.6), one record added -/

/-- Recipe 3 of section 2.7 after its step 2. -/
def alloy : RecipeFields :=
  { cp := 650, sLow := 800, sHigh := 920, equalization := 120, loss := 4
    zoneTarget := Vector.ofFn fun z => if z.val < 6 then 7000 else 9500
    holdTemp := 9200, exitTarget := 11800, tolLow := 150, tolHigh := 200, tsMax := 12800
    gradMax := 600, maxSoak := 1500, maxWait := 50, adaptGain := 150 }

/-- A 12000 g billet of recipe 3. -/
def billet (tag loadSeq : Nat) (place : Place) (ts tc : Nat) : BilletRecord :=
  { tag := tag, loadSeq := loadSeq, recipe := 3, mass := 12000, place := place, ts := ts, tc := tc
    targetOffset := 0, energy := 4512000, rowsRounds := 540, soakRounds := 0
    flags := BilletFlags.clear, measured := none, outcome := none }

/-- Record 210 is QUEUED, 201 at position 9, 204 at the last position, 202 at the exit. -/
def queued : BilletRecord := billet 210 12 .queued 200 200
def inRow : BilletRecord := billet 201 7 (.row 9) 7953 7492
def atEnd : BilletRecord := billet 204 6 (.row 23) 11000 10800
def atExit : BilletRecord := billet 202 8 .exit 11802 11562

/-- Zone 7 of the worked examples: positions 6 to 11, ON at 350 kW, efficiency 820. -/
def zone7 : ZoneChannel :=
  { ZoneChannel.reset with
    map := { firstPos := 6, lastPos := 11, maxKW := 600, minKW := 90, level := 0, enabled := true }
    state := .on, grantInForce := 350, meteredGrant := 350, onSince := some 600000, qOn := 8
    eff := 820, tuningAge := 1200 }

/-- A line in RUN, 80 ms after the boundary at 612000, with a READY billet at the exit. -/
def line : State :=
  { State.reset with
    clock := { count := 612080, lastBoundary := 612000 }
    pool := { Pool.reset with
      records := [queued, inRow, atEnd, atExit], queue := [210], loadCounter := 12 }
    recipes := State.reset.recipes.set 3
      { Recipe.reset with valid := true, fields := alloy, users := 4 }
    row := { RowTracker.reset with
      positions := (RowTracker.reset.positions.set 9 (some 201)).set 23 (some 204) }
    zones := State.reset.zones.set 7 zone7
    feeder := { Arbiter.reset with feederLimit := 1500, roundStart := 612000 }
    tuner := { Tuner.reset with pointer := some 7 }
    exit := { ExitStation.reset with slot := some 202, state := .ready, waitRounds := some 0 }
    line := { LineSequencer.reset false with mode := .run } }

/-- The same line in another mode. -/
def line.mode (m : LineMode) : State := { line with line := { line.line with mode := m } }

/-- The sample line with other data of zone 7. -/
def line.zone (f : ZoneChannel → ZoneChannel) : State :=
  { line with zones := line.zones.set 7 (f zone7) }

/-- The sample line with another exit station. -/
def line.station (f : ExitStation → ExitStation) : State := { line with exit := f line.exit }

/-- The sample line in the hold of a restart. -/
def line.held : State := { line with restart := ⟨some (.restart ⟨.request, 612080, .run⟩), 0, none⟩ }

/-- The state a command leaves. -/
def after (i : Instr) (s : State) : State :=
  match exec i s with
  | .next t => t
  | .fault _ => s
  | .refused _ => s

/-- The status of the response a request leaves in the buffer. -/
def status (i : Instr) (s : State) : Option Status := (after i s).link.buffer.map Response.status


/-! ## WellFormed refuses -/

theorem test_wellFormed_refuses_wide_byte : wellFormed (.queryPosition 4 256) = false := by decide
theorem test_wellFormed_refuses_wide_half : wellFormed (.queryBillet 5 65536) = false := by decide
theorem test_wellFormed_refuses_wide_word :
    wellFormed (.loadBillet 12 1 3 4294967296 200) = false := by decide
theorem test_wellFormed_refuses_wide_offset :
    wellFormed (.amendBillet 9 1 1 32768 0) = false
      ∧ wellFormed (.amendBillet 9 1 1 (-32769) 0) = false := by decide
theorem test_wellFormed_refuses_short_transaction : wellFormed (.queryBillet 4 1) = false := by decide
theorem test_wellFormed_refuses_no_byte : wellFormed (.frameError .frameLength 0) = false := by decide
theorem test_wellFormed_refuses_named_action : wellFormed (.modeStart 4 (some 7)) = false := by decide
theorem test_wellFormed_refuses_recipe_field :
    wellFormed (.writeRecipe 57 3 1 { alloy with cp := 65536 }) = false := by decide
theorem test_wellFormed_refuses_zone_field :
    wellFormed (.setZone 16 7 ⟨6, 11, 600, 90, 0, 256, 0⟩) = false := by decide
theorem test_wellFormed_refuses_line_field :
    wellFormed (.setLine 18 1 ⟨65536, 0, 0, 0, 0, 0, 0⟩) = false := by decide
theorem test_wellFormed_refuses_edge_field :
    wellFormed (.setEdges 8 ⟨0, 0, 256, 0, 0⟩) = false := by decide
theorem test_wellFormed_refuses_reading : wellFormed (.pyrometerReading 65536 true) = false := by decide
theorem test_wellFormed_refuses_efficiency : wellFormed (.inverterTuned 7 1001) = false := by decide
theorem test_wellFormed_refuses_code : wellFormed (.inverterFault 7 256) = false := by decide

/-! ## Frames written out byte by byte (section 11.8); their CRC bytes are worked out apart from the
model, from R174 -/

/-- The register after each byte of a code 1, length 0 frame (R174). -/
theorem test_crc : crc8 [1] = 7 ∧ crc8 [1, 0] = 21 := by decide +kernel
theorem test_decode_readStatus : decodeTransaction [1, 0, 21] = some (.readStatus 3) := by decide +kernel
/-- Bytes beyond the frame are ignored (R172). -/
theorem test_decode_query :
    decodeTransaction [3, 2, 0, 201, 157, 255] = some (.queryBillet 6 201) := by decide +kernel
theorem test_decode_load :
    decodeTransaction [2, 9, 1, 44, 3, 0, 0, 46, 224, 0, 200, 8]
      = some (.loadBillet 12 300 3 12000 200) := by decide +kernel
theorem test_decode_amend :
    decodeTransaction [6, 6, 0, 102, 5, 1, 194, 5, 184] = some (.amendBillet 9 102 5 450 5) := by
  decide +kernel
theorem test_decode_zone :
    decodeTransaction [12, 13, 7, 0, 6, 0, 11, 2, 88, 0, 90, 0, 1, 1, 1, 197]
      = some (.setZone 16 7 ⟨6, 11, 600, 90, 1, 1, 1⟩) := by decide +kernel
theorem test_decode_mode :
    decodeTransaction [19, 1, 7, 31] = some (.modeLeaveService 4)
      ∧ decodeTransaction [19, 1, 8, 50] = some (.modeStart 4 (some 8)) := by decide +kernel
theorem test_decode_ack :
    decodeTransaction [21, 2, 2, 1, 210] = some (.ackAttention 5 513) := by decide +kernel

/-! ## Worked examples -/

/-- Section 2.7, steps 7 to 9. -/
theorem test_adapt_steps :
    adaptStep (-120) 150 = -18 ∧ adaptStep 37 150 = 5 ∧ adaptStep (-3500) 150 = -525 := by decide

/-- Section 3.3, the worked steps at the limits: both nodes clamped, then heat moves outward. -/
theorem test_step_limits :
    let f := { alloy with cp := 200, sLow := 500, tsMax := 15000 }
    let r := thermalStep f 250 .run (some .low) 300000 { billet 1 1 .exit 200 200 with mass := 500 }
    r.ts = 15937 ∧ r.tc = 16000 ∧ r.flags.overheat = true
      ∧ stepTemps f 250 none 0 { r with ts := 15937 } = (15944 - 62, 15993) := by decide

/-- Section 3.4, the worked demand in RUN: three needs and the zone's 90 kW. -/
theorem test_demand_run :
    let e : Recipe := ⟨true, alloy, 20, 0, 3⟩
    let r := fun ts tc mass => { billet 1 1 (.row 7) ts tc with mass := mass }
    need 9500 e 300 (r 6900 6200 9000) = 2856 ∧ need 9500 e 180 (r 7953 7492 12000) = 7618
      ∧ need 9500 e 60 (r 9600 9100 12000) = 1690 ∧ powerFor 12164 820 zone7.map = 90 := by decide

/-- Section 3.4, the worked demand in HOLD: 278 kW. -/
theorem test_demand_hold :
    let s := { line.mode .hold with
      recipes := line.recipes.set 3 ⟨true, alloy, 20, 0, 4⟩ }
    s.demandOf 7 = 278 := by decide

/-- Section 3.4, the worked division: 57400 J metered and divided. -/
theorem test_division :
    ZoneChannel.metered 4500 { zone7 with qOn := 20 } = 57400
      ∧ shares 57400 [⟨205, 9, 9000, some 7⟩, ⟨201, 7, 12000, some 9⟩, ⟨202, 8, 12000, some 11⟩]
        = [15654, 20872, 20874] := by decide

/-- Section 4.8, steps 1 and 3: the current cadence. -/
theorem test_cadence :
    let row := RowTracker.measureCadence { RowTracker.reset with
      cadenceCount := some 60, cadenceHistory := [62, 59, 60] }
    row.cadenceHistory = [62, 59, 60, 60] ∧ State.cadence { line with row := row } = 60 := by decide

/-- Section 7.5: the derated efficiency. -/
theorem test_derated : ZoneChannel.effUsed { zone7 with eff := 800, tuningAge := 4500 } 4500 = 700 := by
  decide

/-- Section 8.8: six valid readings average to 11802. -/
theorem test_measured :
    measuredValue [11790, 11810, 11795, 11870, 11805, 11800] = some 11802 := by decide

/-- The zones of section 6.9: level, least and highest power. -/
def fiveZones : Vector ZoneChannel 12 :=
  let zone := fun level least most =>
    { ZoneChannel.reset with
      map := { firstPos := 0, lastPos := 0, maxKW := most, minKW := least, level := level,
               enabled := true } }
  ((((State.reset.zones.set 0 (zone 0 100 800)).set 1 (zone 1 60 600)).set 2 (zone 1 60 500)).set 3
    (zone 2 60 400)).set 5 (zone 1 80 400)

/-- A zone of section 6.9 that has been ON for `onTime` at `now`. -/
def onFor (now onTime : Nat) (z : ZoneChannel) : ZoneChannel :=
  { z with state := .on, onSince := some (now - onTime) }

/-- Section 6.9, round 1: the arbitration at 10040. -/
def roundOne : State :=
  let on := fun (z : ZoneId) t (zones : Vector ZoneChannel 12) =>
    zones.set z (onFor 10040 t zones[z])
  { line.mode .run with
    clock := { count := 10040, lastBoundary := 10000 }
    zones := on 3 1200 (on 1 6000 (on 0 9000 fiveZones))
    tuner := Tuner.reset
    feeder := { Arbiter.reset with
      feederLimit := 1500, collection := .collecting, collectionTime := 10000
      expected := Vector.ofFn fun z => decide (z ∈ [0, 1, 2, 3, 5])
      demands := ((((Arbiter.reset.demands.set 0 (some 700)).set 1 (some 600)).set 2 (some 400)).set 3
        (some 300))
      pointers := (Vector.replicate 4 11).set 1 1
      startHistory := [4120, 6890, 8200] }
    mail := { Mail.reset with demands := [{ zone := 5, boundaryTime := 10000, demand := 0 }] } }

theorem test_arbitration_round_one :
    let t := after (.demandReport 5) roundOne
    t.mail.grants = [(0, 700), (1, 340), (2, 400), (3, 60), (5, 0)]
      ∧ t.feeder.startHistory = [4120, 6890, 8200, 10040]
      ∧ t.feeder.pointers.toList = [0, 2, 11, 11] := by decide

/-! ## Witnesses of the statements' hypotheses -/

theorem line_distinct : TagsDistinct line := ⟨by decide, by decide⟩

theorem line_taking (c : Nat) (h : 0 < c) : line.Taking c := ⟨h, rfl⟩

/-- Positions beyond the array hold gaps. -/
theorem line_beyond (p : Nat) (h : 40 ≤ p) : line.row.tagAt p = none := by
  simp [RowTracker.tagAt, h]

theorem line_places : PlacesAgree line := by
  have split : ∀ P : Nat → Prop, (∀ p : Fin 40, P p) → (∀ p, 40 ≤ p → P p) → ∀ p, P p := by
    intro P h1 h2 p
    by_cases hp : p < 40
    · exact h1 ⟨p, hp⟩
    · exact h2 p (by omega)
  have rows : ∀ r ∈ line.pool.records, ∀ p : Fin 40,
      r.place = .row p.val ↔ line.row.tagAt p.val = some r.tag := by decide +kernel
  have far : ∀ r ∈ line.pool.records, ∀ p, 40 ≤ p → r.place ≠ .row p := by
    intro r hr p hp h
    have : ∀ r ∈ line.pool.records, r.place.position.all (· < 40) = true := by decide
    have := this r hr
    simp only [h, Place.position, Option.all_some, decide_eq_true_eq] at this
    omega
  have held : ∀ p : Fin 40, ∀ tag ∈ line.row.tagAt p.val, ∃ r ∈ line.pool.records, r.tag = tag := by
    decide +kernel
  refine ⟨fun r hr => ⟨?_, split _ (rows r hr) ?_, ?_⟩, by decide, ?_, ?_, by decide, by decide,
    by decide, by decide, ?_⟩
  · revert r; decide
  · intro p hp
    simp [line_beyond p hp, far r hr p hp]
  · revert r; decide
  · exact split _ (fun p tag h => held p tag h) (fun p hp tag h => by simp [line_beyond p hp] at h)
  · intro tag h; cases h; exact ⟨atExit, by decide, rfl⟩
  · exact split _ (by decide +kernel) (fun p hp _ => line_beyond p hp)

theorem line_tracked : BilletsTracked line :=
  ⟨line_distinct, ⟨by decide, by decide, by decide, by decide, by decide⟩,
    fun h => absurd h (by decide), line_places⟩

theorem witness_StepRunsTheFrontCommand :
    { line with pending := [.stepNotice, .queryRow 3] }.pending = .stepNotice :: [.queryRow 3] := rfl

theorem witness_HoldTakesNoEvent :
    line.held.restart.hold.isSome = true ∧ (∀ edge, Instr.nop 3 ≠ .powerOnReset edge)
      ∧ (∀ first, Instr.nop 3 ≠ .restartRelease first)
      ∧ after (.nop 0) line.held = line.held
      ∧ (after (.nop 1) line.held).link.lastShift = some { response := none, clocked := 1 }
      ∧ (after (.takeEdge .falling) line.held).pins = quietLevels
      ∧ (after (.feederFaultChange true) line.held).pins = { quietLevels with feederFault := true }
      ∧ (after .ctrlResetAsserted line.held).pins = { quietLevels with ctrlReset := true }
      ∧ after .roundBoundary line.held = line.held
      ∧ (after (.powerOnReset .held) line).restart.hold.isSome = true
      ∧ (after (.modeHold 4) (after (.powerOnReset .held) line)).line.mode = .run :=
  ⟨rfl, nofun, nofun, by decide⟩

theorem witness_RequestFramesDecodeBack :
    (wellFormed (.loadBillet 12 65535 255 4294967295 65535)
      && (encodeRequest (.loadBillet 12 65535 255 4294967295 65535)).isSome) = true
      ∧ (wellFormed (.amendBillet 9 0 0 (-32768) 0)
        && (encodeRequest (.amendBillet 9 0 0 (-32768) 0)).isSome) = true
      ∧ wellFormed (.modeStart 4 (some 255)) = true
      ∧ encodeRequest (.readStatus 4) = some [1, 0, 21, 0] := by decide +kernel

/-- One frame for each branch, at the ends of its ranges. -/
theorem witness_FrameChecksInOrder :
    line.Taking 1
      ∧ decodeTransaction [0, 0] = some (.frameError .frameLength 2)
      ∧ decodeTransaction [0, 61, 0] = some (.frameError .frameLength 3)
      ∧ decodeTransaction [0, 1, 0] = some (.frameError .frameLength 3)
      ∧ decodeTransaction [1, 0, 20] = some (.frameError .crc 3)
      ∧ decodeTransaction [25, 0, 234] = some (.frameError .requestCode 3)
      ∧ decodeTransaction [1, 1, 0, 126] = some (.frameError .payloadLength 4)
      ∧ decodeTransaction [24, 0, 255] = some (.restart 3)
      ∧ status (.frameError .crc 3) line = some .linkCrc :=
  ⟨line_taking 1 (by decide), by decide +kernel⟩

/-- Section 11.9, transactions 4 and 5: three of the four bytes of a frame error do not fetch it. -/
theorem witness_NopFetchesTheResponse :
    let s := after (.frameError .crc 3) line
    s.Taking 3 ∧ (after (.nop 3) s).link.buffer = s.link.buffer ∧ (after (.nop 4) s).link.buffer = none
      ∧ (⟨none, 3⟩ : ShiftOut).bytes = [0, 0, 0] :=
  ⟨⟨by decide, rfl⟩, by decide, by decide, by decide⟩

/-- Section 11.8: the snapshot of record 201 written out byte by byte, in a frame of 37 bytes (section
11.9, transaction 3); the CRC-8 of the frame is worked out apart from the model. -/
theorem test_snapshot_frame :
    (Response.frame ⟨.ok, .snapshot ⟨inRow, none⟩⟩) =
            [1, 0, 33, 0, 201, 0, 0, 0, 7, 3, 0, 0, 46, 224, 1, 1, 9, 0, 31, 17, 29, 68, 0, 0,
        0, 0, 68, 217, 0, 2, 28, 0, 0, 0, 0, 0, 88] := by decide +kernel

theorem witness_StatusReadsShowTheState :
    line.Taking 3 ∧ status (.readStatus 3) line = some .ok ∧ status (.readLine 3) line = some .ok
      ∧ line.feeder.settlement = none ∧ line.lineView.settlement.roundTime = 0 :=
  ⟨line_taking 3 (by decide), by decide, by decide, rfl, rfl⟩

theorem witness_LinkRegistersWritten :
    line.Taking 8 ∧ status (.ackAttention 5 1023) line = some .ok
      ∧ status (.ackAttention 5 1024) line = some .badValue
      ∧ status (.setMasks 5 1023) line = some .ok ∧ status (.setMasks 5 1024) line = some .badValue
      ∧ status (.setEdges 8 ⟨0, 1, 2, 3, 0⟩) line = some .wrongMode
      ∧ status (.setEdges 8 ⟨0, 1, 2, 3, 0⟩) (line.mode .stopped) = some .ok
      ∧ status (.setEdges 8 ⟨0, 1, 2, 3, 4⟩) (line.mode .service) = some .badValue :=
  ⟨line_taking 8 (by decide), by decide⟩

theorem witness_LookupsAnswer :
    line.Taking 5 ∧ TagsDistinct line ∧ line.row.length ≤ 40 ∧ queued ∈ line.pool.records
      ∧ (∀ r ∈ line.pool.records, r.tag ≠ 0) ∧ status (.queryBillet 5 0) line = some .noSuchTag
      ∧ status (.queryPosition 4 23) line = some .ok
      ∧ status (.queryPosition 4 24) line = some .badValue :=
  ⟨line_taking 5 (by decide), line_distinct, by decide⟩

theorem witness_LoadBilletCreatesOrRefuses :
    line.Taking 12 ∧ status (.loadBillet 12 0 3 12000 0) line = some .badValue
      ∧ status (.loadBillet 12 65536 3 12000 0) line = some .badValue
      ∧ status (.loadBillet 12 300 3 499 0) line = some .badValue
      ∧ status (.loadBillet 12 300 3 250001 0) line = some .badValue
      ∧ status (.loadBillet 12 300 16 500 0) line = some .badValue
      ∧ status (.loadBillet 12 300 4 500 0) line = some .badValue
      ∧ status (.loadBillet 12 202 3 500 0) line = some .tagInUse
      ∧ status (.loadBillet 12 300 3 500 0)
        { line with pool := { line.pool with queue := [1, 2, 3, 4, 5, 6, 7, 8] } } = some .queueFull
      ∧ status (.loadBillet 12 65535 3 250000 65535) line = some .ok :=
  ⟨line_taking 12 (by decide), by decide⟩

theorem witness_AmendBilletAppliesOrRefuses :
    line.Taking 9 ∧ TagsDistinct line ∧ queued ∈ line.pool.records ∧ queued.place = .queued
      ∧ atExit ∈ line.pool.records ∧ line.recipes[(3 : RecipeId)].valid = true
      ∧ status (.amendBillet 9 210 8 0 3) line = some .badValue
      ∧ status (.amendBillet 9 9 7 0 3) line = some .noSuchTag
      ∧ status (.amendBillet 9 202 4 0 3) line = some .wrongPlace
      ∧ status (.amendBillet 9 210 4 0 16) line = some .badValue
      ∧ status (.amendBillet 9 210 7 450 3) line = some .ok
      ∧ (after (.amendBillet 9 202 3 (-450) 0) line).mail.marks = [⟨202, 8⟩] := by
  refine ⟨line_taking 9 (by decide), line_distinct, by decide, by decide, by decide, by decide, ?_,
    by decide⟩
  have h := State.request_taking (line_taking 9 (by decide)) fun s => s.amendUnnamed 210 8 3
  have h2 : exec (.amendBillet 9 210 8 0 3) line = _ := h
  simp only [status, after, h2, State.amendUnnamed]
  cases Config.amendPartsFirst <;> rfl

theorem witness_WithdrawRetiresQueuedRecords :
    line.Taking 5 ∧ TagsDistinct line ∧ queued ∈ line.pool.records ∧ queued.place = .queued
      ∧ (∀ r ∈ line.pool.records, r.tag ≠ 300) ∧ status (.withdrawBillet 5 300) line = some .noSuchTag
      ∧ status (.withdrawBillet 5 210) line = some .ok
      ∧ status (.withdrawBillet 5 202) line = some .wrongPlace :=
  ⟨line_taking 5 (by decide), line_distinct, by decide⟩

theorem witness_EntriesReadAsTheyStand :
    line.Taking 4 ∧ status (.readRecipe 4 15) line = some .ok
      ∧ status (.readRecipe 4 16) line = some .badValue ∧ status (.readZone 4 11) line = some .ok
      ∧ status (.readZone 4 12) line = some .badValue ∧ status (.readLastRetired 4 0) line = some .ok
      ∧ status (.readLastRetired 4 1) line = some .ok
      ∧ status (.readLastRetired 4 2) line = some .badValue :=
  ⟨line_taking 4 (by decide), by decide⟩

theorem witness_RecordsKeepTheirIdentity :
    BilletsTracked line ∧ atExit ∈ (after (.strokeBegin .rising) line).pool.records
      ∧ ∀ c tag recipe mass initial,
        Instr.strokeBegin .rising ≠ .loadBillet c tag recipe mass initial :=
  ⟨line_tracked, by decide, nofun⟩

/-- Section 2.7's writes: in use with another cp, invalidated in use, and the constants as stored. -/
theorem witness_WriteRecipeAppliesOrRefuses :
    line.Taking 57 ∧ status (.writeRecipe 57 16 1 alloy) line = some .badValue
      ∧ status (.writeRecipe 57 3 2 alloy) line = some .badValue
      ∧ status (.writeRecipe 57 3 0 alloy) line = some .recipeInUse
      ∧ status (.writeRecipe 57 15 0 alloy) line = some .ok
      ∧ status (.writeRecipe 57 3 1 { alloy with loss := 101 }) line = some .badValue
      ∧ status (.writeRecipe 57 3 1 { alloy with cp := 660 }) line = some .recipeInUse
      ∧ status (.writeRecipe 57 3 1 { alloy with holdTemp := 9000 }) line = some .ok :=
  ⟨line_taking 57 (by decide), by decide⟩

theorem witness_LearnedPartMovesAndResets :
    let s := { line with mail := { line.mail with updates := [(3, -3500), (3, 37)] } }
    line.Taking 4 ∧ status (.resetBias 4 15) line = some .ok
      ∧ status (.resetBias 4 16) line = some .badValue ∧ status (.resetBias 4 255) line = some .ok
      ∧ s.restart.hold = none ∧ s.mail.updates = (3, -3500) :: [(3, 37)]
      ∧ (after .adaptationUpdate s).recipes[(3 : RecipeId)].bias = -500 :=
  ⟨line_taking 4 (by decide), by decide⟩

/-- Section 3.3, the worked step: one billet in one round. -/
theorem witness_ThermalStepFollowsTheStages :
    let r := billet 201 7 (.row 9) 8000 7400
    r.ts ≤ 16000 ∧ r.tc ≤ 16000 ∧ alloy.equalization ≤ 500 ∧ alloy.loss ≤ 100 ∧ 250 ≤ 16000
      ∧ (thermalStep alloy 250 .run (some .low) 30000 r).ts = 7953
      ∧ (thermalStep alloy 250 .run (some .low) 30000 r).tc = 7492
      ∧ ((some .low : Option Band) = none → 30000 = 0) ∧ ((none : Option Band) = none → 0 = 0)
      ∧ (thermalStep alloy 250 .run none 0 r).ts < 8000 := by decide

theorem witness_SharesDivideTheEnergy :
    let entries : List ReportEntry := [⟨205, 9, 500, some 7⟩, ⟨201, 7, 12000, some 9⟩]
    entries ≠ [] ∧ (∀ e ∈ entries, 500 ≤ e.mass) ∧ shares 1000 entries = [40, 960] := by decide

/-- An unheated report of the same boundary waits before zone 7's. -/
def reported : State :=
  { line with
    pool := { line.pool with records := [billet 201 7 (.row 9) 8000 7400, atExit] }
    mail := { Mail.reset with
      reports :=
        [⟨.unheated, 612000, [⟨202, 8, 12000, none⟩]⟩,
         ⟨.zone 7 30000 .low, 612000, [⟨201, 7, 12000, some 9⟩]⟩] } }

theorem witness_EnergyReportStepsItsRecords :
    reported.restart.hold = none ∧ TagsDistinct reported
      ∧ reported.mail.reports =
        [⟨.unheated, 612000, [⟨202, 8, 12000, none⟩]⟩] ++
          { source := .zone 7 30000 .low, boundaryTime := 612000,
            entries := [⟨201, 7, 12000, some 9⟩] } :: []
      ∧ (∀ r ∈ [(⟨.unheated, 612000, [⟨202, 8, 12000, none⟩]⟩ : Report)],
          r.boundaryTime = 612000 ∧ ∀ e b, r.source ≠ .zone 7 e b)
      ∧ (∀ e ∈ [(⟨201, 7, 12000, some 9⟩ : ReportEntry)], 500 ≤ e.mass)
      ∧ (after (.energyReport 7) reported).mail.credits = [(7, 0)] := by
  refine ⟨rfl, ⟨by decide, by decide⟩, rfl, ?_, by decide, by decide⟩
  intro r hr
  cases List.mem_singleton.mp hr
  exact ⟨rfl, nofun⟩

theorem witness_UnheatedReportStepsItsRecords :
    reported.restart.hold = none ∧ TagsDistinct reported
      ∧ reported.mail.reports =
        [] ++ { source := .unheated, boundaryTime := 612000, entries := [⟨202, 8, 12000, none⟩] }
          :: [⟨.zone 7 30000 .low, 612000, [⟨201, 7, 12000, some 9⟩]⟩]
      ∧ (after .unheatedReport reported).mail.steps = [⟨202, 8⟩] :=
  ⟨rfl, ⟨by decide, by decide⟩, rfl, by decide⟩

theorem witness_DemandFitsTheZone :
    zone7.map.InRange ∧ line.zones[(7 : ZoneId)] = zone7 ∧ 500 ≤ zone7.eff
      ∧ line.row.tagAt 9 = some 201 ∧ line.demandOf 7 = 90 ∧ (line.mode .hold).demandOf 7 ≠ 0
      ∧ (line.mode .tripped).demandOf 7 = 0
      ∧ (line.zone fun z => { z with map := { z.map with enabled := false } }).demandOf 7 = 0 :=
  ⟨by unfold ZoneMap.InRange; decide, by decide⟩

theorem witness_RowLengthChecked :
    (line.mode .stopped).Taking 4 ∧ status (.setRowLength 4 24) line = some .wrongMode
      ∧ status (.setRowLength 4 3) (line.mode .stopped) = some .badValue
      ∧ status (.setRowLength 4 41) (line.mode .stopped) = some .badValue
      ∧ status (.setRowLength 4 11) (line.mode .stopped) = some .badValue
      ∧ status (.setRowLength 4 12) (line.mode .stopped) = some .ok
      ∧ status (.setRowLength 4 40) (line.mode .service) = some .ok :=
  ⟨⟨by decide, rfl⟩, by decide⟩

/-- The sample line with a stroke MOVING. -/
def line.moving : State :=
  { line with row := { line.row with
      stroke := .moving, strokeTimer := some 615000, cadenceCount := some 60
      cadenceHistory := [62, 59, 60] } }

theorem witness_StrokeEdgesActByState :
    line.restart.hold = none ∧ line.link.edges.pushFwd.counts .falling = false
      ∧ line.link.edges.pushHome.counts .falling = false
      ∧ line.link.edges.pushHome.counts .rising = true ∧ line.row.stroke = .idle
      ∧ (after (.strokeBegin .rising) line).row.permitViolations = 1
      ∧ (after (.strokeBegin .rising) line.moving).row.fwdRepeats = 1
      ∧ (after (.strokeEnd .rising) line).row.homeUnmatched = 1 := by decide

/-- Section 4.8, step 1: a stroke end with the exit EMPTY. -/
theorem witness_StrokeEndShiftsTheRow :
    let s := { line.moving with
      pool := { line.pool with records := [queued, inRow, atEnd] }, exit := ExitStation.reset }
    s.restart.hold = none ∧ s.link.edges.pushHome.counts .rising = true ∧ s.row.stroke = .moving
      ∧ 4 ≤ s.row.length ∧ s.row.length ≤ 40 ∧ s.exit.state = .empty
      ∧ (after (.strokeEnd .rising) s).exit.slot = some 204
      ∧ (after (.strokeEnd .rising) s).row.tagAt 0 = some 210
      ∧ (after (.strokeEnd .rising) s).link.flags = 64 := by decide

theorem witness_PushOffRetiresTheHeldRecord :
    line.moving.restart.hold = none ∧ line.moving.link.edges.pushHome.counts .rising = true
      ∧ line.moving.row.stroke = .moving ∧ TagsDistinct line.moving ∧ line.moving.row.length ≤ 40
      ∧ line.moving.row.tagAt (line.moving.row.length - 1) = some 204
      ∧ line.moving.exit.state ≠ .empty ∧ line.moving.exit.slot = some atExit.tag
      ∧ atExit ∈ line.moving.pool.records ∧ atExit.tag ≠ 204
      ∧ (after (.strokeEnd .rising) line.moving).line.holdCause = some .pushOff
      ∧ (after (.strokeEnd .rising) line.moving).row.tagAt 0 = some 210
      ∧ (after (.strokeEnd .rising) line.moving).link.flags = 1 + 16 + 32 + 64
      ∧ (after (.strokeEnd .rising) { line.moving with line := (line.mode .hold).line }).link.flags
        = 1 + 32 :=
  ⟨rfl, rfl, rfl, line_distinct, by decide⟩

theorem witness_StrokeTimerExpires :
    line.moving.restart.hold = none ∧ line.moving.row.strokeTimer = some 615000
      ∧ (after .strokeTimerExpiry line.moving).clock.count = 615000
      ∧ (after .strokeTimerExpiry line.moving).line.mode = .hold := by decide

/-- Zone 7's entry as SET_ZONE carries it, and its refusals at the ends of the ranges. -/
theorem witness_SetZoneWritesOrRefuses :
    let s := { line.zone (fun z => { z with state := .off }) with line := (line.mode .service).line }
    let f : ZoneFields := ⟨6, 11, 600, 90, 1, 1, 0⟩
    s.Taking 16 ∧ status (.setZone 16 7 f) line = some .wrongMode
      ∧ status (.setZone 16 7 f) { s with tuner := { s.tuner with allState := .running } } = some .busy
      ∧ status (.setZone 16 12 f) s = some .badValue
      ∧ status (.setZone 16 7 { f with level := 4 }) s = some .badValue
      ∧ status (.setZone 16 7 f) (line.mode .service) = some .busy
      ∧ status (.setZone 16 7 { f with firstPos := 12 }) s = some .badValue
      ∧ status (.setZone 16 7 { f with minKW := 4 }) s = some .badValue
      ∧ status (.setZone 16 7 { f with lastPos := 24 }) s = some .badValue
      ∧ status (.setZone 16 8 { f with firstPos := 11, lastPos := 12 }) s = some .badValue
      ∧ status (.setZone 16 8 { f with firstPos := 12, lastPos := 23, maxKW := 1500, minKW := 1411 }) s
        = some .badValue
      ∧ status (.setZone 16 8 { f with firstPos := 12, lastPos := 23, maxKW := 1500, minKW := 1410 }) s
        = some .ok :=
  ⟨⟨by decide, rfl⟩, by decide⟩

theorem witness_ZoneRequestsActByState :
    let faulted := line.zone fun z => { z with state := .faulted, lastReport := some .fault }
    let healthy := line.zone fun z => { z with state := .faulted, lastReport := some .healthy }
    line.Taking 5 ∧ status (.setZoneBand 5 12 0) line = some .badValue
      ∧ status (.setZoneBand 5 7 2) line = some .badValue
      ∧ (after (.setZoneBand 5 7 1) line).zones[(7 : ZoneId)].pendingBand = some .high
      ∧ status (.clearZoneFault 4 12) line = some .badValue
      ∧ status (.clearZoneFault 4 7) line = some .ok
      ∧ faulted.Taking 4 ∧ faulted.zones[(7 : ZoneId)].state = .faulted
      ∧ status (.clearZoneFault 4 7) faulted = some .faultLatched
      ∧ (after (.clearZoneFault 4 7) healthy).zones[(7 : ZoneId)].state = .stopping :=
  ⟨line_taking 5 (by decide), by decide, by decide, by decide, by decide, by decide,
    ⟨by decide, rfl⟩, by decide⟩

/-- The sample line with grants of 520 and 0 waiting for zone 7, behind one for zone 3. -/
theorem witness_GrantActsByState :
    let s := { line with mail := { line.mail with grants := [(3, 60), (7, 520), (7, 0)] } }
    s.restart.hold = none ∧ s.mail.grants = [(3, 60)] ++ (7, 520) :: [(7, 0)]
      ∧ (∀ m ∈ [((3 : ZoneId), 60)], m.1 ≠ 7)
      ∧ (after (.grant 7) s).zones[(7 : ZoneId)].nextGrant = some 520
      ∧ (after (.grant 3) s).sent = [(3, .run 60 .low)] := by decide

theorem witness_CreditAndOrderTaken :
    let s := { line with mail := { line.mail with credits := [(3, 1), (7, 500)], orders := [7, 3] } }
    s.restart.hold = none ∧ s.mail.credits = [(3, 1)] ++ (7, 500) :: []
      ∧ (∀ m ∈ [((3 : ZoneId), 1)], m.1 ≠ 7) ∧ s.mail.orders = [7] ++ 3 :: [] ∧ 3 ∉ [(7 : ZoneId)]
      ∧ (after (.idleCredit 7) s).zones[(7 : ZoneId)].idleEnergy = 500
      ∧ (after (.tuneOrder 7) s).mail.outcomes = [(7, .refused)] := by decide

theorem witness_InverterReportsTaken :
    let tuning := line.zone fun z => { z with state := .tuning, timer := some 613000 }
    line.restart.hold = none ∧ (after (.inverterRunning 7) line).zones[(7 : ZoneId)].strayReports = 1
      ∧ (after (.inverterTuned 7 500) tuning).zones[(7 : ZoneId)].eff = 500
      ∧ (after (.inverterTuned 7 981) tuning).zones[(7 : ZoneId)].faultCause = some .tuneRange
      ∧ (after (.inverterFault 7 255) tuning).mail.outcomes = [(7, .failed)] := by decide

theorem witness_ZoneTimersExpire :
    let at7 := fun st => line.zone fun z => { z with state := st, timer := some 612300 }
    (at7 .starting).restart.hold = none ∧ (at7 .starting).zones[(7 : ZoneId)].timer = some 612300
      ∧ (after (.startTimeout 7) (at7 .starting)).zones[(7 : ZoneId)].faultCause = some .startTimeout
      ∧ (after (.recoveryExpiry 7) (at7 .stopping)).zones[(7 : ZoneId)].state = .off
      ∧ (after (.tuneTimeout 7) (at7 .tuning)).mail.outcomes = [(7, .failed)] := by decide

/-- Section 5.9, round A: RUNNING at 121 ms leaves seven whole quanta. -/
theorem witness_TimeCountsWholeQuanta :
    let s := { line.zone (fun z => { z with onSince := some 612121, qOn := 0 }) with
      clock := { count := 612121, lastBoundary := 612000 } }
    s.feeder.roundStart ≤ s.clock.count ∧ s.clock.count ≤ 281474976710655
      ∧ s.zones[(7 : ZoneId)].state = .on ∧ s.zones[(7 : ZoneId)].onSince = some 612121
      ∧ (s.elapse 79).zones[(7 : ZoneId)].qOn = 7 ∧ s.clock.count ≤ 612200
      ∧ s.pending = [] ∧ s.dueEvent = none ∧ s.restart.hold ≠ some .powerOn
      ∧ ({ s with clock := { s.clock with count := 612200 } } : State).dueEvent = some .roundBoundary
      ∧ (after (.powerOnReset .held) s).restart.hold = some .powerOn := by decide

theorem witness_BoundaryOpensTheRound :
    line.restart.hold = none ∧ TagsDistinct line ∧ (∀ z : ZoneId, line.zones[z].map.lastPos ≤ 39)
      ∧ line.zones[(7 : ZoneId)].map.enabled = true
      ∧ (∀ z : ZoneId, State.reset.zones[z].map.enabled = false)
      ∧ (after .roundBoundary State.reset).feeder.settlement.isSome = true
      ∧ (after .roundBoundary line).mail.reports =
        [⟨.zone 7 57400 .low, 612200, [⟨201, 7, 12000, some 9⟩]⟩,
         ⟨.unheated, 612200, [⟨204, 6, 12000, some 23⟩, ⟨202, 8, 12000, none⟩]⟩] :=
  ⟨rfl, line_distinct, by decide⟩

theorem witness_DemandReportEntered :
    roundOne.restart.hold = none
      ∧ roundOne.mail.demands = [] ++ { zone := 5, boundaryTime := 10000, demand := 0 } :: []
      ∧ (after (.demandReport 5) roundOne).feeder.collection = .settled := by decide

/-- Round one of section 6.9 with its last demand entered. -/
def collected : State :=
  { roundOne with feeder := { roundOne.feeder with
      demands := roundOne.feeder.demands.set 5 (some 0) } }

/-- The mode set on it for the idle clause. -/
theorem witness_ArbitrationSettlesTheRound :
    let dispositions := fun s : State => s.arbitrate.feeder.settlement.map fun r =>
      r.zones.toList.filterMap fun e => e.map fun x => x.disposition
    let paced := { collected with feeder := { collected.feeder with startHistory := [9641] } }
    collected.line.mode = .run ∧ collected.arbitrate.feeder.collection = .settled
      ∧ dispositions collected = some [.granted, .granted, .granted, .committed, .noDemand]
      ∧ dispositions paced = some [.granted, .granted, .deferred, .granted, .noDemand]
      ∧ paced.arbitrate.feeder.deferredStarts = 1
      ∧ ({ collected with line := (line.mode .tripped).line }.arbitrate.mail.grants
        = [(0, 0), (1, 0), (2, 0), (3, 0), (5, 0)]) := by decide

/-- Section 6.3, the second and third exclusion: zone 1 waits for HIGH past MIN_ON, and the overdue
pointed zone 0 is forced to stop; a level whose zones are excluded keeps its pointer. -/
theorem test_exclusions :
    let banded := { collected with
      zones := collected.zones.set 1
        { collected.zones[(1 : ZoneId)] with pendingBand := some .high } }
    let pointed := { banded with tuner := { Tuner.reset with pointer := some 0 } }
    (pointed.arbitrate.feeder.settlement.map fun r => r.zones.toList.filterMap id) =
        some [⟨700, 0, 0, .exclTuning⟩, ⟨600, 0, 0, .exclBand⟩, ⟨400, 0, 400, .granted⟩,
          ⟨300, 60, 300, .granted⟩, ⟨0, 0, 0, .noDemand⟩]
      ∧ pointed.arbitrate.feeder.pointers.toList = [11, 2, 3, 11] := by decide

theorem witness_GrantsFillTheBudget :
    collected.line.mode = .run
      ∧ (((List.finRange 12).filter fun z => collected.feeder.expected[z]).map fun z =>
        collected.zones[z].map.minKW).sum ≤ collected.feeder.feederLimit
      ∧ collected.arbitrate.feeder.settlement.isSome = true
      ∧ (collected.arbitrate.feeder.settlement.map fun r => r.budgetLeft) = some 0 := by decide

theorem witness_OneEligibleStartPerRound :
    collected.line.mode = .run ∧ (∀ z : ZoneId, collected.zones[z].map.InRange)
      ∧ collected.zones[(2 : ZoneId)].state = .off
      ∧ ((collected.arbitrate.feeder.settlement.bind fun r => r.zones[(2 : ZoneId)]).map fun e => e.grant)
        = some 400 := by
  unfold ZoneMap.InRange
  decide

theorem witness_GrantsStayWithinLimits :
    collected.zones[(3 : ZoneId)].map.InRange ∧ collected.feeder.demands[(3 : ZoneId)] = some 300
      ∧ collected.zones[(3 : ZoneId)].map.minKW ≤ 300 ∧ 300 ≤ collected.zones[(3 : ZoneId)].map.maxKW
      ∧ collected.zones[(3 : ZoneId)].onSince = some 8840 ∧ 10040 - 8840 < 2000
      ∧ collected.zones[(1 : ZoneId)].state = .on ∧ collected.zones[(1 : ZoneId)].onSince = some 4040
      ∧ 2000 ≤ collected.clock.count - 4040 ∧ collected.tuner.window ≤ collected.zones[(1 : ZoneId)].tuningAge
      ∧ ((collected.arbitrate.feeder.settlement.bind fun r => r.zones[(3 : ZoneId)]).map fun e => e.grant)
        = some 60 := by
  unfold ZoneMap.InRange
  decide

theorem witness_TuneOrdersSent :
    let off := line.zone fun z => { z with state := .off, tuningAge := 4500 }
    let service := { off with line := (line.mode .service).line }
    let grants := (Vector.replicate 12 none).set 7 (some 0)
    let due := { off with mail := { off.mail with notices := [⟨612000, grants⟩] } }
    service.Taking 3 ∧ status (.tuneAll 3) line = some .wrongMode
      ∧ status (.tuneAll 3) { service with tuner := { service.tuner with regularZone := some 0 } }
        = some .busy
      ∧ status (.tuneAll 3) { State.reset with line := service.line } = some .notConfigured
      ∧ status (.tuneAll 3) (line.mode .service) = some .busy
      ∧ status (.tuneAll 3) service = some .ok
      ∧ due.restart.hold = none ∧ due.mail.notices = ⟨612000, grants⟩ :: []
      ∧ (after .roundNotice due).mail.orders = [7] :=
  ⟨⟨by decide, rfl⟩, by decide⟩

/-- A running tune-all with zone 7 in progress and zone 8 waiting. -/
theorem witness_OutcomeEndsItsTuning :
    let regular := { line with
      tuner := { line.tuner with regularZone := some 7 }
      mail := { line.mail with outcomes := [(3, .refused), (7, .succeeded)] } }
    let all := { line with
      tuner := { line.tuner with
        allState := .running, allList := [(0, .tuned), (7, .inProgress), (8, .waiting)] }
      mail := { line.mail with outcomes := [(7, .failed)] } }
    regular.restart.hold = none
      ∧ regular.mail.outcomes = [(3, .refused)] ++ (7, .succeeded) :: []
      ∧ (∀ m ∈ [((3 : ZoneId), TuneOutcome.refused)], m.1 ≠ 7)
      ∧ regular.tuner.regularZone = some 7
      ∧ (after (.tuneOutcome 7) regular).tuner.pointer = some 7
      ∧ all.tuner.regularZone ≠ some 7
      ∧ all.tuner.allList = [(0, .tuned)] ++ (7, .inProgress) :: [(8, .waiting)]
      ∧ (∀ x ∈ [((0 : ZoneId), TuneResult.tuned)] ++ [(8, .waiting)], x.1 ≠ 7)
      ∧ (all.tuner.allList.map Prod.fst).Nodup
      ∧ (after (.tuneOutcome 7) all).mail.orders = [8]
      ∧ (after (.tuneOutcome 7) { all with tuner := line.tuner }).tuner = line.tuner := by decide

/-- The sample line with the exit MEASURING. -/
def line.measuring (readings : List Nat) : State :=
  line.station fun e => { e with
    state := .measuring, waitRounds := none, readings := readings, windowTimer := some 613500 }

theorem witness_ReadingsListedAndAveraged :
    let seven := line.measuring [11790, 11810, 11795, 11870, 11805, 11800, 11800]
    seven.restart.hold = none ∧ seven.exit.state = .measuring ∧ seven.exit.readings.length = 7
      ∧ TagsDistinct seven ∧ seven.clock.count ≤ 281474976710655
      ∧ (∀ z : ZoneId, seven.zones[z].qOn ≤ 20) ∧ atExit ∈ seven.pool.records
      ∧ seven.exit.slot = some atExit.tag
      ∧ (after (.pyrometerReading 16000 true) seven).exit.readings.length = 8
      ∧ (after (.pyrometerReading 16001 true) seven).exit.readingsInvalid = 1
      ∧ (after (.pyrometerReading 0 true) (line.measuring [])).exit.readings = [0]
      ∧ (after (.pyrometerReading 11800 true) line).exit.readingsDiscarded = 1
      ∧ measuredValue [3, 4, 4] = some 3 ∧ measuredValue [5, 1, 2, 9] = some 3
      ∧ (5 ∈ [5, 1, 2, 9] ∧ ∀ x ∈ [5, 1, 2, 9], 1 ≤ x ∧ x ≤ 9) :=
  ⟨rfl, rfl, rfl, ⟨by decide, by decide⟩, by decide⟩

theorem witness_WindowCloseDecides :
    let s := line.measuring [11790, 11810, 11795, 11870, 11805, 11800]
    s.restart.hold = none ∧ TagsDistinct s ∧ s.exit.state = .measuring
      ∧ s.exit.windowTimer = some 613500 ∧ s.exit.slot = some atExit.tag ∧ atExit ∈ s.pool.records
      ∧ measuredValue s.exit.readings = some 11802
      ∧ (after .measurementWindowExpiry s).exit.state = .ready
      ∧ (after .measurementWindowExpiry (line.measuring [])).exit.state = .rejecting
      ∧ (after .measurementWindowExpiry (line.measuring [11649])).exit.state = .rejecting
      ∧ (after .measurementWindowExpiry (line.measuring [12000])).exit.state = .ready
      ∧ (after .measurementWindowExpiry (line.measuring [12001])).exit.state = .rejecting :=
  ⟨rfl, ⟨by decide, by decide⟩, by decide⟩

theorem witness_NoticesJudgeTheReadyBillet :
    let s := { line with mail := { line.mail with steps := [⟨202, 8⟩], marks := [⟨202, 8⟩] } }
    s.restart.hold = none ∧ TagsDistinct s ∧ atExit ∈ s.pool.records ∧ atExit.tag = 202
      ∧ atExit.loadSeq = 8 ∧ s.exit.state = .ready ∧ s.exit.slot = some 202
      ∧ s.mail.steps = ⟨202, 8⟩ :: [] ∧ s.mail.marks = ⟨202, 8⟩ :: []
      ∧ (after .stepNotice s).exit.waitRounds = some 1
      ∧ (after .markNotice s).exit.state = .rejecting
      ∧ (after .stepNotice { s with exit := { s.exit with waitRounds := some 49 } }).exit.state
        = .rejecting
      ∧ (after .stepNotice { s with exit := { s.exit with state := .toPress } }).exit.state
        = .toPress :=
  ⟨rfl, ⟨by decide, by decide⟩, by decide⟩

theorem witness_TakeHandsTheBilletOver :
    line.restart.hold = none ∧ TagsDistinct line ∧ line.link.edges.take.counts .falling = false
      ∧ line.link.edges.take.counts .rising = true ∧ line.exit.pendingTakes ≤ 2
      ∧ atExit ∈ line.pool.records ∧ line.exit.state = .ready ∧ line.exit.slot = some atExit.tag
      ∧ (after (.takeEdge .rising) line).exit.state = .toPress
      ∧ (after (.takeEdge .rising)
          { line.measuring [] with exit := { (line.measuring []).exit with pendingTakes := 2 } }
        ).exit.takeOverflows = 1 :=
  ⟨rfl, line_distinct, by decide⟩

theorem witness_TransfersEndInRetirement :
    let press := line.station fun e => { e with
      state := .toPress, waitRounds := none, transferTimer := some 616000 }
    let cold := { atExit with outcome := some .rejectedCold }
    let chute := { line with
      pool := { line.pool with records := [queued, inRow, atEnd, cold] }
      exit := { line.exit with
        state := .rejecting, waitRounds := none, transferTimer := some 616000 } }
    press.restart.hold = none ∧ TagsDistinct press ∧ TagsDistinct chute
      ∧ press.link.edges.pressDone.counts .rising = true
      ∧ press.link.edges.chuteDone.counts .falling = false ∧ press.exit.state = .toPress
      ∧ atExit ∈ press.pool.records ∧ press.exit.slot = some atExit.tag
      ∧ press.exit.transferTimer = some 616000 ∧ chute.exit.state = .rejecting
      ∧ cold ∈ chute.pool.records ∧ cold.outcome = some .rejectedCold
      ∧ (after (.pressDoneEdge .rising) press).pool.outcomes[(0 : Fin 10)] = 1
      ∧ (after (.chuteDoneEdge .rising) chute).pool.outcomes[(1 : Fin 10)] = 1
      ∧ (after .transferTimerExpiry press).pool.outcomes[(6 : Fin 10)] = 1
      ∧ (after (.pressDoneEdge .rising) chute).exit.strayPressDone = 1
      ∧ (after (.chuteDoneEdge .rising) press).exit.strayChuteDone = 1 :=
  ⟨rfl, ⟨by decide, by decide⟩, ⟨by decide, by decide⟩, by decide⟩

/-- A line whose row and exit are empty. -/
def line.cleared (m : LineMode) : State :=
  { line.mode m with
    pool := { line.pool with records := [queued] }, row := RowTracker.reset, exit := ExitStation.reset }

theorem witness_ModeActionsMoveTheLine :
    line.Taking 4 ∧ (line.cleared .run).Cleared ∧ ¬ line.Cleared
      ∧ status (.modeStart 4 (some 8)) line = some .badValue
      ∧ status (.modeStart 4 none) line = some .wrongMode
      ∧ status (.modeStart 4 none) State.reset = some .notConfigured
      ∧ status (.modeStart 4 none)
        { line.mode .stopped with line := { (line.mode .stopped).line with faultLatch := true } }
        = some .faultLatched
      ∧ status (.modeStart 4 none) (line.mode .stopped) = some .ok
      ∧ (after (.modeHold 4) line).line.mode = .hold
      ∧ (after (.modeResume 4) (line.mode .drain)).line.mode = .run
      ∧ (after (.modeDrain 4) (line.cleared .run)).line.mode = .stopped
      ∧ (after (.modeDrain 4) (line.mode .hold)).line.autoHold = some 615080
      ∧ (after (.modeService 4) (line.mode .stopped)).line.mode = .service
      ∧ (after (.modeLeaveService 4) (line.mode .service)).line.mode = .stopped :=
  ⟨line_taking 4 (by decide), by unfold State.Cleared; decide, by unfold State.Cleared; decide,
    by decide⟩

theorem witness_TripAndClearTrip :
    line.Taking 4 ∧ (line.cleared .tripped).Cleared
      ∧ (after (.modeTrip 4) line).zones[(7 : ZoneId)].state = .stopping
      ∧ status (.modeTrip 4) (line.mode .stopped) = some .wrongMode
      ∧ status (.modeClearTrip 4) line = some .wrongMode
      ∧ status (.modeClearTrip 4)
        { line.mode .tripped with pins := { quietLevels with feederFault := true } }
        = some .faultLatched
      ∧ (after (.modeClearTrip 4) (line.cleared .tripped)).line.mode = .stopped
      ∧ (after (.modeClearTrip 4) (line.mode .tripped)).line.holdCause = some .afterTrip :=
  ⟨line_taking 4 (by decide), by unfold State.Cleared; decide, by decide⟩

theorem witness_LineModeFollowsTheTable :
    exec (.modeHold 4) line = .next (after (.modeHold 4) line)
      ∧ (after (.modeHold 4) line).line.mode ≠ line.line.mode :=
  ⟨rfl, by decide⟩

theorem witness_SetLineStoresOrRefuses :
    line.Taking 18 ∧ status (.setLine 18 128 ⟨0, 0, 0, 0, 0, 0, 0⟩) line = some .badValue
      ∧ status (.setLine 18 1 ⟨89, 0, 0, 0, 0, 0, 0⟩) line = some .badValue
      ∧ status (.setLine 18 1 ⟨90, 0, 0, 0, 0, 0, 0⟩) line = some .ok
      ∧ (after (.setLine 18 127 ⟨65535, 0, 9, 601, 60001, 0, 0⟩) line).feeder.feederLimit = 6000
      ∧ (after (.setLine 18 127 ⟨65535, 0, 9, 601, 60001, 0, 0⟩) line).link.flags = 128 :=
  ⟨line_taking 18 (by decide), by decide⟩

/-- Section 9.11, the events at 2000, 5000 and 6100. -/
theorem witness_LevelInputsActOnTheLine :
    let timed := { line with line := { line.line with autoHold := some 615080 } }
    timed.restart.hold = none ∧ timed.line.autoHold = some 615080 ∧ timed.line.mode = .run
      ∧ (after (.pressReadyChange false) line).line.autoHold = some 615080
      ∧ (after .autoHoldExpiry timed).line.holdCause = some .pressNotReady
      ∧ (after (.feederFaultChange true) line).line.tripCause = some .feeder
      ∧ (after (.feederFaultChange true) (line.mode .stopped)).line.mode = .stopped := by decide

theorem witness_RestartEntryTaken :
    line.Taking 3 ∧ line.pushPermit = false ∧ (line.station fun _ => ExitStation.reset).pushPermit = true
      ∧ (line.station fun e => { e with state := .toPress }).pressLoad = true
      ∧ (line.station fun e => { e with state := .rejecting }).chuteOpen = true
      ∧ (after (.setMasks 5 0) (after (.frameError .crc 3) line)).attention = true
      ∧ (after (.powerOnReset .held) (after (.setMasks 5 0) (after (.frameError .crc 3) line))).attention
        = false
      ∧ (after .ctrlResetAsserted line).line.tripCause = some .restart
      ∧ (after (.restart 3) line).restart.hold.isSome = true :=
  ⟨line_taking 3 (by decide), by decide⟩

/-- Section 10.6: the worked restart, record 202 in TO_PRESS. -/
def inHold : State :=
  { line.mode .tripped with
    clock := { count := 612960, lastBoundary := 612000 }
    pool := { line.pool with records := [queued, inRow, atExit] }
    row := { line.row with positions := RowTracker.reset.positions.set 9 (some 201) }
    zones := line.zones.set 7 { zone7 with
      state := .stopping, timer := some 612680, grantInForce := 0, onSince := none }
    exit := { line.exit with state := .toPress, waitRounds := none }
    restart := ⟨some (.restart ⟨.ctrlReset, 612080, .run⟩), 0, none⟩ }

theorem witness_RestartReleaseCatchesUp :
    inHold.restart.hold = some (.restart ⟨.ctrlReset, 612080, .run⟩) ∧ TagsDistinct inHold
      ∧ inHold.exit.state = .toPress ∧ atExit ∈ inHold.pool.records
      ∧ inHold.exit.slot = some atExit.tag
      ∧ ((after (.restartRelease true) inHold).pool.records.map fun r => (r.tag, r.ts, r.tc))
        = [(210, 200, 200), (201, 7700, 7626)]
      ∧ (after (.restartRelease true) inHold).zones[(7 : ZoneId)].timer = some 613560
      ∧ (after (.restartRelease true) inHold).restart.last
        = some ⟨.ctrlReset, 612080, 612960, .run, 4, 4, false, 1⟩
      ∧ (after (.restartRelease false) inHold).mail.steps = List.replicate 4 ⟨202, 8⟩ :=
  ⟨rfl, ⟨by decide, by decide⟩, by decide⟩

/-- No transfer in flight, and a report held from before the entry (R37, R169). -/
theorem witness_RestartRelease_measuring :
    let s := { inHold with
      exit := { inHold.exit with state := .measuring }
      mail := { inHold.mail with reports := [⟨.unheated, 612000, [⟨202, 8, 12000, none⟩]⟩] } }
    s.restart.hold = some (.restart ⟨.ctrlReset, 612080, .run⟩) ∧ TagsDistinct s
      ∧ s.exit.state ≠ .toPress ∧ s.exit.state ≠ .rejecting
      ∧ (after (.restartRelease false) s).exit.windowTimer = some 614460
      ∧ (after (.restartRelease false) s).mail.reports = []
      ∧ (after (.restartRelease false) s).mail.steps = List.replicate 5 ⟨202, 8⟩ :=
  ⟨rfl, ⟨by decide, by decide⟩, by decide⟩

/-- A RESTART request's hold ends 20 ms after its entry, and a release without a hold does nothing. -/
theorem witness_RestartRelease_of_request :
    line.held.restart.hold = some (.restart ⟨.request, 612080, .run⟩) ∧ TagsDistinct line.held
      ∧ (after (.restartRelease true) line.held).clock.count = 612100
      ∧ line.restart.hold = none ∧ exec (.restartRelease true) line = .next line
      ∧ after (.restartRelease true) (after (.powerOnReset .held) line.held)
        = after (.powerOnReset .held) line.held :=
  ⟨rfl, line_distinct, by decide, rfl, rfl, rfl⟩

/-! ## States that keep the laws, and a step of each -/

theorem line_steps : step { line with pending := [.strokeBegin .rising] }
    = .next (after (.strokeBegin .rising) line) := rfl

theorem witness_ZoneLawsKept : ZonesFit line ∧ MapKept line := by
  unfold ZonesFit ZoneChannel.Fits MapKept MapsLegal ZoneMap.InRange GuardKept
  decide

theorem witness_RecipeUseKept : RecipesTracked line := by
  unfold RecipesTracked UsersCounted InUseValid
  exact ⟨line_distinct, by decide, by decide⟩

theorem witness_RangesKeptByEveryStep : RangesKept line := by
  unfold RangesKept TempsBounded BiasBounded MetersBounded ParametersInRange
  decide

theorem witness_StartPacingKept : StartsPaced roundOne := by
  unfold StartsPaced
  decide

theorem witness_BilletsStayTracked : BilletsTracked line := line_tracked

end Sys2Proof.Tests
end

section
/-! PROOFS. The recipe table: WRITE_RECIPE (R31, R32). -/

namespace Sys2Proof.Machine

/-! ## A request taken, by what its act answers (R172, R175) -/

section
variable {s : State} {c : Nat} {act : State → Response × State} {r : Response}

/-- A request that leaves the state as it found it changes nothing but its response. -/
theorem State.request_of_unchanged (h : s.Taking c)
    (ha : act (s.settleFetch c) = (r, s.settleFetch c)) :
    s.request c act = .next (s.answered c r) := by
  rw [State.request_taking h, ha, State.settleFetch_respond]

/-- A request that changes one recipe's entry changes nothing else but its response. -/
theorem State.request_of_modifyRecipe (k : RecipeId) (g : Recipe → Recipe) (h : s.Taking c)
    (ha : act (s.settleFetch c) = (r, (s.settleFetch c).modifyRecipe k g)) :
    s.request c act = .next { s with
      recipes := s.recipes.set k (g s.recipes[k])
      link := s.link.answered c r } := by
  have hlink : (((s.settleFetch c).modifyRecipe k g).respond r).link = s.link.answered c r :=
    State.respond_link c r rfl
  rw [State.request_taking h, ha, ← hlink]
  rfl

end

/-! ## The operands WRITE_RECIPE checks (sections 2.2 and 11.8) -/

@[simp] theorem recipeOf_val (k : RecipeId) : recipeOf k.val = some k := by
  simp [recipeOf]

theorem recipeOf_eq_none {n : Nat} (h : 16 ≤ n) : recipeOf n = none := by
  simp [recipeOf, Nat.not_lt.mpr h]

theorem yesNoOf_eq_none {n : Nat} (h : 1 < n) : yesNoOf n = none := by
  match n, h with
  | _ + 2, _ => rfl

@[simp] theorem Recipe.inUse_iff (e : Recipe) : e.inUse = true ↔ 0 < e.users :=
  decide_eq_true_iff

theorem constantsInRange_eq_false_iff (f : RecipeFields) :
    constantsInRange f = false ↔
      f.cp < 200 ∨ 2000 < f.cp ∨ f.sLow < 500 ∨ 1000 < f.sLow ∨ f.sHigh < 500 ∨
        1000 < f.sHigh ∨ 500 < f.equalization ∨ 100 < f.loss := by
  rw [← Bool.not_eq_true]
  simp only [constantsInRange, Bool.and_eq_true, decide_eq_true_eq]
  omega

theorem sameConstants_iff (f g : RecipeFields) :
    sameConstants f g = true ↔
      f.cp = g.cp ∧ f.sLow = g.sLow ∧ f.sHigh = g.sHigh ∧ f.equalization = g.equalization ∧
        f.loss = g.loss := by
  simp [sameConstants, and_assoc]

/-- The fields as stored, with the bounds of section 2.2 as numbers. -/
theorem clampedFields_eq (f : RecipeFields) :
    clampedFields f = { f with
      zoneTarget := f.zoneTarget.map fun target => min 16000 target
      holdTemp := min 16000 f.holdTemp, exitTarget := min 16000 f.exitTarget
      tolLow := min 1000 f.tolLow, tolHigh := min 1000 f.tolHigh
      tsMax := min 16000 f.tsMax, gradMax := min 5000 f.gradMax
      adaptGain := min 500 f.adaptGain } := by
  have htargets : (Vector.ofFn fun z => min Config.tempMax f.zoneTarget[z]) =
      f.zoneTarget.map fun target => min 16000 target := by
    ext z hz
    simp [Config.tempMax]
  unfold clampedFields
  rw [htargets]
  rfl

/-! ## WRITE_RECIPE's checks, in R31's order -/

theorem State.modifyRecipe_same (s : State) (k : RecipeId) (g : Recipe → Recipe) :
    (s.modifyRecipe k g).recipes[k] = g s.recipes[k] := by
  simp [State.modifyRecipe]

section
variable (s : State) (k : RecipeId) (f : RecipeFields)

theorem State.writeRecipe_badNumber {recipe : Nat} (validity : Nat) (h : 16 ≤ recipe) :
    s.writeRecipe recipe validity f = refuse .badValue s := by
  simp only [State.writeRecipe, recipeOf_eq_none h]

theorem State.writeRecipe_badValidity {validity : Nat} (h : 1 < validity) :
    s.writeRecipe k validity f = refuse .badValue s := by
  simp only [State.writeRecipe, recipeOf_val, yesNoOf_eq_none h]

/-- An entry written invalid: refused while it is in use, its validity cleared otherwise. -/
theorem State.writeRecipe_invalid :
    s.writeRecipe k 0 f =
      if 0 < s.recipes[k].users then
        ({ status := .recipeInUse, payload := .userCount s.recipes[k].users }, s)
      else accept (.recipe { s.recipes[k] with valid := false })
        (s.modifyRecipe k fun e => { e with valid := false }) := by
  simp only [State.writeRecipe, recipeOf_val, yesNoOf, Recipe.inUse_iff, State.modifyRecipe_same]

/-- An entry written valid: the constants' ranges, the constants of an entry in use, then the write. -/
theorem State.writeRecipe_valid :
    s.writeRecipe k 1 f =
      if constantsInRange f = false then refuse .badValue s
      else if 0 < s.recipes[k].users ∧ ¬ sameConstants f s.recipes[k].fields = true then
        ({ status := .recipeInUse, payload := .userCount s.recipes[k].users }, s)
      else accept (.recipe { s.recipes[k] with valid := true, fields := clampedFields f })
        (s.modifyRecipe k fun e => { e with valid := true, fields := clampedFields f }) := by
  simp only [State.writeRecipe, recipeOf_val, yesNoOf, State.modifyRecipe_same]
  cases constantsInRange f with
  | false => simp
  | true => simp only [Bool.true_eq_false, if_true, if_false, Bool.and_eq_true, Bool.not_eq_true',
      Bool.not_eq_true, Recipe.inUse_iff]

end

/-! ## WRITE_RECIPE as a command -/

theorem exec_writeRecipe (c recipe validity : Nat) (f : RecipeFields) (s : State) :
    exec (.writeRecipe c recipe validity f) s =
      s.request c fun s => s.writeRecipe recipe validity f := rfl

/-- Settles O15: each check is a branch of `State.writeRecipe_invalid` or `State.writeRecipe_valid`, on
the state whose fetch is settled, which has the recipes of `s`. -/
theorem writeRecipeAppliesOrRefuses : Obligations.WriteRecipeAppliesOrRefuses := by
  unfold Obligations.WriteRecipeAppliesOrRefuses
  intro s c recipe validity f h
  simp only [exec_writeRecipe, ← constantsInRange_eq_false_iff, ← sameConstants_iff,
    ← clampedFields_eq]
  refine ⟨fun hr => State.request_of_unchanged h (State.writeRecipe_badNumber _ f validity hr), ?_⟩
  rintro k rfl
  have hinvalid := State.writeRecipe_invalid (s.settleFetch c) k f
  have hvalid := State.writeRecipe_valid (s.settleFetch c) k f
  rw [State.settleFetch_recipes] at hinvalid hvalid
  by_cases hv : 1 < validity
  · rw [if_pos hv]
    exact State.request_of_unchanged h (State.writeRecipe_badValidity _ k f hv)
  rw [if_neg hv]
  obtain rfl | rfl : validity = 0 ∨ validity = 1 := by omega
  · rw [if_pos rfl]
    split <;> rename_i hused
    · exact State.request_of_unchanged h (hinvalid.trans (if_pos hused))
    · exact State.request_of_modifyRecipe k (fun e => { e with valid := false }) h
        (hinvalid.trans (if_neg hused))
  · rw [if_neg Nat.one_ne_zero]
    split <;> rename_i hrange
    · exact State.request_of_unchanged h (hvalid.trans (if_pos hrange))
    rw [if_neg hrange] at hvalid
    split <;> rename_i hconst
    · exact State.request_of_unchanged h (hvalid.trans (if_pos hconst))
    · exact State.request_of_modifyRecipe k
        (fun e => { e with valid := true, fields := clampedFields f }) h
        (hvalid.trans (if_neg hconst))

end Sys2Proof.Machine
end

section
/-! PROOFS. The thermal step (R44 to R49). -/

namespace Sys2Proof.Machine

/-! ## Truncated thousandths of a difference -/

/-- The k thousandths of a difference, truncated, have its sign and stop at one `m`th of it, when `m`
times `k` is at most 1000: half for the transfer (R46), the whole for the loss (R47). -/
theorem tdiv_thousand_of_nonneg {d : Int} {k m : Nat} (hd : 0 ≤ d) (hk : m * k ≤ 1000) :
    0 ≤ (d * k).tdiv 1000 ∧ m * (d * k).tdiv 1000 ≤ d := by
  have hdk : 0 ≤ d * k := Int.mul_nonneg hd k.cast_nonneg
  have hfloor : d * k / 1000 * 1000 ≤ d * k := Int.ediv_mul_le _ (by decide)
  have hparts : (m * k : Int) * d ≤ 1000 * d :=
    Int.mul_le_mul_of_nonneg_right (by exact_mod_cast hk) hd
  rw [Int.tdiv_eq_ediv_of_nonneg hdk]
  refine ⟨by omega, Int.le_of_mul_le_mul_left (a := 1000) ?_ (by decide)⟩
  calc 1000 * (m * (d * k / 1000)) = m * (d * k / 1000 * 1000) := by ring
    _ ≤ m * (d * k) := Int.mul_le_mul_of_nonneg_left hfloor m.cast_nonneg
    _ = m * k * d := by ring
    _ ≤ 1000 * d := hparts

theorem tdiv_thousand_of_nonpos {d : Int} {k m : Nat} (hd : d ≤ 0) (hk : m * k ≤ 1000) :
    (d * k).tdiv 1000 ≤ 0 ∧ d ≤ m * (d * k).tdiv 1000 := by
  have h := tdiv_thousand_of_nonneg (Int.neg_nonneg_of_nonpos hd) hk
  rw [Int.neg_mul, Int.neg_tdiv, Int.mul_neg] at h
  omega

/-! ## The stages (R45 to R47) -/

theorem bandShare_eq (f : RecipeFields) (band : Option Band) :
    bandShare f band = if band = some .high then f.sHigh else f.sLow := by
  match band with
  | none => rfl
  | some .low => rfl
  | some .high => rfl

/-- The transfer goes from the hotter node to the colder, at most half their difference (R46). -/
theorem transfer_cases (ts1 tc1 : Nat) {g : Nat} (hg : g ≤ 500) :
    (tc1 ≤ ts1 ∧ 0 ≤ transfer ts1 tc1 g ∧ 2 * transfer ts1 tc1 g ≤ (ts1 : Int) - tc1) ∨
      (ts1 ≤ tc1 ∧ transfer ts1 tc1 g ≤ 0 ∧ (ts1 : Int) - tc1 ≤ 2 * transfer ts1 tc1 g) := by
  have hk : 2 * g ≤ 1000 := by omega
  rcases Nat.le_total tc1 ts1 with h | h
  · exact .inl ⟨h, tdiv_thousand_of_nonneg (by omega) hk⟩
  · exact .inr ⟨h, tdiv_thousand_of_nonpos (by omega) hk⟩

theorem transfer_keeps_between (ts1 tc1 : Nat) {g : Nat} (hg : g ≤ 500) :
    let q := transfer ts1 tc1 g
    min (ts1 : Int) tc1 ≤ ts1 - q ∧ ts1 - q ≤ max (ts1 : Int) tc1 ∧
      min (ts1 : Int) tc1 ≤ tc1 + q ∧ tc1 + q ≤ max (ts1 : Int) tc1 ∧
      2 * |q| ≤ |(ts1 : Int) - tc1| := by
  dsimp only
  obtain ⟨h, hq, hhalf⟩ | ⟨h, hq, hhalf⟩ := transfer_cases ts1 tc1 hg
  · rw [abs_of_nonneg hq, abs_of_nonneg (by omega)]
    omega
  · rw [abs_of_nonpos hq, abs_of_nonpos (by omega)]
    omega

/-- The surface moves toward the ambient and never passes it (R47). -/
theorem surfaceLoss_stops_at_ambient (ts2 : Int) (tAmb : Nat) {l : Nat} (hl : l ≤ 100) :
    let ts3 := ts2 - surfaceLoss ts2 tAmb l
    ((tAmb : Int) ≤ ts2 → (tAmb : Int) ≤ ts3 ∧ ts3 ≤ ts2) ∧
      (ts2 ≤ (tAmb : Int) → ts2 ≤ ts3 ∧ ts3 ≤ (tAmb : Int)) := by
  have hk : 1 * l ≤ 1000 := by omega
  refine ⟨fun h => ?_, fun h => ?_⟩
  · have hloss : 0 ≤ surfaceLoss ts2 tAmb l ∧ (1 : Nat) * surfaceLoss ts2 tAmb l ≤ ts2 - tAmb :=
      tdiv_thousand_of_nonneg (by omega) hk
    omega
  · have hloss : surfaceLoss ts2 tAmb l ≤ 0 ∧ ts2 - tAmb ≤ (1 : Nat) * surfaceLoss ts2 tAmb l :=
      tdiv_thousand_of_nonpos (by omega) hk
    omega

theorem clampTemp_of_mem {t : Int} (hlow : 0 ≤ t) (hhigh : t ≤ 16000) :
    (clampTemp t : Int) = t := by
  simp only [clampTemp, clampInt, Config.tempMax]
  omega

/-- No final clamp of a step acts: the transfer keeps the core within the clamped nodes, the loss keeps
the surface between them and the ambient. -/
theorem stepTemps_mem {f : RecipeFields} {tAmb : Nat} (band : Option Band) (energy : Nat)
    (r : BilletRecord) (hg : f.equalization ≤ 500) (hl : f.loss ≤ 100) (hamb : tAmb ≤ 16000) :
    (0 ≤ (stepTemps f tAmb band energy r).1 ∧ (stepTemps f tAmb band energy r).1 ≤ 16000) ∧
      0 ≤ (stepTemps f tAmb band energy r).2 ∧ (stepTemps f tAmb band energy r).2 ≤ 16000 := by
  simp only [stepTemps]
  generalize hs : heatSurface r.ts (meanRise energy r.mass f.cp) (bandShare f band) = ts1
  generalize hc : heatCore r.tc (meanRise energy r.mass f.cp) (bandShare f band) = tc1
  have hts1 : ts1 ≤ 16000 := hs ▸ Nat.min_le_left ..
  have htc1 : tc1 ≤ 16000 := hc ▸ Nat.min_le_left ..
  have hbetween := transfer_keeps_between ts1 tc1 hg
  have hloss := surfaceLoss_stops_at_ambient (ts1 - transfer ts1 tc1 f.equalization) tAmb hl
  dsimp only at hbetween hloss
  omega

/-! ## What a step writes (R47 to R49) -/

theorem Place.isRow_iff (p : Place) : p.isRow = true ↔ ∃ position, p = .row position := by
  cases p <;> simp [Place.isRow]

theorem LineMode.soaks_iff (mode : LineMode) :
    mode.soaks = true ↔ mode = .hold ∨ mode = .tripped := by
  cases mode <;> simp [LineMode.soaks]

section
variable (f : RecipeFields) (tAmb : Nat) (mode : LineMode) (band : Option Band) (energy : Nat)
  (r : BilletRecord)

@[simp] theorem thermalStep_ts :
    (thermalStep f tAmb mode band energy r).ts = clampTemp (stepTemps f tAmb band energy r).1 := rfl

@[simp] theorem thermalStep_tc :
    (thermalStep f tAmb mode band energy r).tc = clampTemp (stepTemps f tAmb band energy r).2 := rfl

@[simp] theorem thermalStep_energy :
    (thermalStep f tAmb mode band energy r).energy = min 4000000000 (r.energy + energy) := rfl

theorem thermalStep_rowsRounds :
    (thermalStep f tAmb mode band energy r).rowsRounds =
      if r.place.isRow then min 65535 (r.rowsRounds + 1) else r.rowsRounds := rfl

theorem thermalStep_soakRounds :
    (thermalStep f tAmb mode band energy r).soakRounds =
      if r.place.isRow && mode.soaks then min 65535 (r.soakRounds + 1) else r.soakRounds := rfl

theorem thermalStep_overheat_iff :
    (thermalStep f tAmb mode band energy r).flags.overheat = true ↔
      r.flags.overheat = true ∨ (f.tsMax : Int) + 500 < (stepTemps f tAmb band energy r).1 := by
  simp [thermalStep]

theorem thermalStep_soakExceeded_iff :
    (thermalStep f tAmb mode band energy r).flags.soakExceeded = true ↔
      r.flags.soakExceeded = true ∨
        f.maxSoak ≠ 0 ∧ f.maxSoak ≤ (thermalStep f tAmb mode band energy r).soakRounds := by
  simp [thermalStep]

end

/-- Settles O17: R46's and R47's bounds are those of `transfer` and `surfaceLoss`, which keep the step's
temperatures where no clamp acts; the rest is what `thermalStep` writes, field by field. -/
theorem thermalStepFollowsTheStages : Obligations.ThermalStepFollowsTheStages := by
  unfold Obligations.ThermalStepFollowsTheStages
  intro f tAmb energy mode band r _ _ _ hg hl hamb rise share ts1 tc1 q ts2 tc2 ts3 t inRow
  have htemps : stepTemps f tAmb band energy r = (ts3, tc2) := by
    simp only [stepTemps, bandShare_eq]
    rfl
  obtain ⟨⟨hlow3, hhigh3⟩, hlow2, hhigh2⟩ := stepTemps_mem band energy r hg hl hamb
  have hoverheat := thermalStep_overheat_iff f tAmb mode band energy r
  rw [htemps] at hlow3 hhigh3 hlow2 hhigh2 hoverheat
  have hts : (t.ts : Int) = ts3 := by
    rw [thermalStep_ts, htemps, clampTemp_of_mem hlow3 hhigh3]
  have htc : (t.tc : Int) = tc2 := by
    rw [thermalStep_tc, htemps, clampTemp_of_mem hlow2 hhigh2]
  have hrows := thermalStep_rowsRounds f tAmb mode band energy r
  have hsoak := thermalStep_soakRounds f tAmb mode band energy r
  have hrow : r.place.isRow = true ↔ inRow := Place.isRow_iff r.place
  have hsoaking : (r.place.isRow && mode.soaks) = true ↔
      inRow ∧ (mode = .hold ∨ mode = .tripped) := by
    rw [Bool.and_eq_true, hrow, LineMode.soaks_iff]
  exact ⟨transfer_keeps_between ts1 tc1 hg, surfaceLoss_stops_at_ambient ts2 tAmb hl, hts, htc,
    thermalStep_energy .., fun h => hrows.trans (if_pos (hrow.mpr h)),
    fun h => hrows.trans (if_neg (mt hrow.mp h)), fun h => hsoak.trans (if_pos (hsoaking.mpr h)),
    fun h => hsoak.trans (if_neg (mt hsoaking.mp h)), hoverheat,
    thermalStep_soakExceeded_iff f tAmb mode band energy r, rfl⟩

end Sys2Proof.Machine
end

section
/-! PROOFS. The pusher's edges by stroke state (R62, R63, R69, R181). -/

namespace Sys2Proof.Machine

/-! ## A transition of PUSH_FWD or PUSH_HOME (R181) -/

theorem transitionLevel_eq (t : Transition) : transitionLevel t = decide (t = .rising) := by
  cases t <;> rfl

section
variable {s : State}

/-- Outside a hold a transition of PUSH_FWD sets the level at the pin, and begins a stroke or repeats
when the selection counts it. -/
theorem exec_strokeBegin_open (h : s.restart.hold = none) (t : Transition) :
    exec (.strokeBegin t) s =
      let pinned := { s with pins := { s.pins with pushFwd := decide (t = .rising) } }
      .next (if s.link.edges.pushFwd.counts t then pinned.beginStroke else pinned) := by
  rw [← transitionLevel_eq]
  exact State.event_open (s := { s with pins := { s.pins with pushFwd := transitionLevel t } }) h _

/-- Outside a hold a transition of PUSH_HOME sets the level at the pin, and ends a stroke or is unmatched
when the selection counts it. -/
theorem exec_strokeEnd_open (h : s.restart.hold = none) (t : Transition) :
    exec (.strokeEnd t) s =
      let pinned := { s with pins := { s.pins with pushHome := decide (t = .rising) } }
      .next (if s.link.edges.pushHome.counts t then pinned.homeEdge else pinned) := by
  rw [← transitionLevel_eq]
  exact State.event_open (s := { s with pins := { s.pins with pushHome := transitionLevel t } }) h _

/-! ## What an edge does in each stroke state (R62, R63) -/

/-- In IDLE and outside a hold, PUSH_PERMIT follows the mode and the exit station alone (R69). -/
theorem State.pushPermit_iff_of_idle (h : s.restart.hold = none) (hi : s.row.stroke = .idle) :
    s.pushPermit = true ↔ (s.line.mode = .run ∨ s.line.mode = .drain) ∧ s.exit.state = .empty := by
  simp [State.pushPermit, State.held, h, hi]

theorem State.beginStroke_of_idle (h : s.restart.hold = none) (hi : s.row.stroke = .idle) :
    s.beginStroke = { s with row := { s.row with
      stroke := .moving, strokeTimer := some (s.clock.count + 8000)
      permitViolations :=
        if (s.line.mode = .run ∨ s.line.mode = .drain) ∧ s.exit.state = .empty then
          s.row.permitViolations
        else min 65535 (s.row.permitViolations + 1) } } := by
  simp only [State.beginStroke, hi, State.pushPermit_iff_of_idle h hi]
  rfl

theorem State.beginStroke_of_moving (hm : s.row.stroke = .moving) :
    s.beginStroke = { s with row := { s.row with
      fwdRepeats := min 65535 (s.row.fwdRepeats + 1) } } := by
  simp only [State.beginStroke, hm]
  rfl

theorem State.homeEdge_of_idle (hi : s.row.stroke = .idle) :
    s.homeEdge = { s with row := { s.row with
      homeUnmatched := min 65535 (s.row.homeUnmatched + 1) } } := by
  simp only [State.homeEdge, hi]
  rfl

end

/-- Settles O23: by whether the selection counts the transition, then by the stroke state; the new level
at the pin does not reach what the edge does. -/
theorem strokeEdgesActByState : Obligations.StrokeEdgesActByState := by
  unfold Obligations.StrokeEdgesActByState
  intro s e h forward home
  rw [exec_strokeBegin_open h, exec_strokeEnd_open h]
  refine ⟨?_, fun hc => ?_, fun hc hi => ?_⟩
  · cases hc : s.link.edges.pushFwd.counts e with
    | false => rfl
    | true =>
      cases hs : s.row.stroke with
      | idle => exact congrArg Host.Outcome.next (State.beginStroke_of_idle (s := forward) h hs)
      | moving => exact congrArg Host.Outcome.next (State.beginStroke_of_moving (s := forward) hs)
  · rw [hc]
    rfl
  · rw [hc]
    exact congrArg Host.Outcome.next (State.homeEdge_of_idle (s := home) hi)

end Sys2Proof.Machine
end

section
/-! PROOFS. The line link: READ_STATUS and READ_LINE (R176, R177). -/

namespace Sys2Proof.Machine

/-! ## A request that reads (R172, R175) -/

/-- A request that answers OK with data read from the state changes nothing but its response; the data is
read after the fetch is settled. -/
theorem State.request_of_read {s : State} {c : Nat} (view : State → Payload) (h : s.Taking c) :
    s.request c (fun s => accept (view s) s) =
      .next (s.answered c { status := .ok, payload := view (s.settleFetch c) }) :=
  State.request_of_unchanged h rfl

theorem exec_readStatus (c : Nat) (s : State) :
    exec (.readStatus c) s = s.request c fun s => accept (.status s.statusView) s := rfl

theorem exec_readLine (c : Nat) (s : State) :
    exec (.readLine c) s = s.request c fun s => accept (.line s.lineView) s := rfl

/-! ## The quantities computed when they are read (R74, R116, R123, R178) -/

/-- Some flag is left exactly when one is set that is not named: two flag sets differ at a bit. -/
theorem clearFlags_ne_zero_iff (flags named : BitVec 10) :
    clearFlags flags named ≠ 0 ↔
      ∃ k : Fin 10, flags.getLsbD k.val = true ∧ named.getLsbD k.val = false := by
  rw [Ne, BitVec.eq_of_getElem_eq_iff]
  simp [clearFlags, Fin.exists_iff]

/-- Outside a hold ATTENTION is asserted exactly while a flag is both set and unmasked (R178). -/
theorem State.attention_of_open {s : State} (h : s.restart.hold = none) :
    s.attention = decide (∃ k : Fin 10,
      s.link.flags.getLsbD k.val = true ∧ s.link.masks.getLsbD k.val = false) := by
  rw [Bool.eq_iff_iff, decide_eq_true_iff, ← clearFlags_ne_zero_iff]
  simp [State.attention, State.held, h]

theorem State.cadence_eq (s : State) :
    s.cadence = if s.row.cadenceHistory.length < 4 then s.line.nominalCadence
      else max 1 (min 3000 (s.row.cadenceHistory.sum / 4)) := rfl

theorem State.overdueZones_eq (s : State) :
    s.overdueZones = (List.finRange 12).filter fun z =>
      s.zones[z].map.enabled && decide (s.tuner.window ≤ s.zones[z].tuningAge) := rfl

/-- One record stands for the absent settlement in every state: the open values of log entry 23, with
round_time 0 and no zone entry (R116). -/
theorem State.reportedSettlement_eq_getD :
    ∃ unsettled : Settlement, unsettled.roundTime = 0 ∧
      (∀ z : ZoneId, unsettled.zones[z] = none) ∧
      ∀ s : State, s.reportedSettlement = s.feeder.settlement.getD unsettled :=
  ⟨{ Config.openSettlement with roundTime := 0, zones := Vector.replicate 12 none }, rfl,
    fun z => by simp, fun _ => rfl⟩

/-! ## What the two requests read: nothing that the fetch changes -/

@[simp] theorem State.settleFetch_statusView (s : State) (c : Nat) :
    (s.settleFetch c).statusView = s.statusView := rfl

@[simp] theorem State.settleFetch_lineView (s : State) (c : Nat) :
    (s.settleFetch c).lineView = s.lineView := rfl

/-- Settles O7: each request reads a view that the fetch leaves alone; the views' computed quantities are
those of `State.attention_of_open`, `State.cadence_eq`, `State.overdueZones_eq` and
`State.reportedSettlement_eq_getD`. -/
theorem statusReadsShowTheState : Obligations.StatusReadsShowTheState := by
  unfold Obligations.StatusReadsShowTheState
  intro s c h
  obtain ⟨unsettled, htime, hzones, hreported⟩ := State.reportedSettlement_eq_getD
  rw [exec_readStatus, exec_readLine, State.request_of_read _ h, State.request_of_read _ h,
    State.settleFetch_statusView, State.settleFetch_lineView]
  refine ⟨?_, unsettled, htime, hzones, ?_⟩
  · rw [← State.attention_of_open h.2]
    rfl
  · rw [← State.cadence_eq, ← State.overdueZones_eq, ← hreported]
    rfl

end Sys2Proof.Machine
end

section
/-! PROOFS. The frame of every command: the blocks it can change, and that every command completes. -/

namespace Sys2Proof.Machine

/-! ## Frames put together -/

theorem unchangedBut_iff {l : List Block} {s t : State} :
    UnchangedBut l s t ↔
      (.pending ∈ l ∨ t.pending = s.pending) ∧ (.clock ∈ l ∨ t.clock = s.clock) ∧
      (.pool ∈ l ∨ t.pool = s.pool) ∧ (.recipes ∈ l ∨ t.recipes = s.recipes) ∧
      (.row ∈ l ∨ t.row = s.row) ∧ (.zones ∈ l ∨ t.zones = s.zones) ∧
      (.feeder ∈ l ∨ t.feeder = s.feeder) ∧ (.tuner ∈ l ∨ t.tuner = s.tuner) ∧
      (.exit ∈ l ∨ t.exit = s.exit) ∧ (.line ∈ l ∨ t.line = s.line) ∧
      (.link ∈ l ∨ t.link = s.link) ∧ (.restart ∈ l ∨ t.restart = s.restart) ∧
      (.mail ∈ l ∨ t.mail = s.mail) ∧ (.pins ∈ l ∨ t.pins = s.pins) ∧
      (.sent ∈ l ∨ t.sent = s.sent) := by
  constructor
  · intro h
    have same : ∀ b : Block, b ∈ l ∨ b.Same s t := fun b => or_iff_not_imp_left.mpr (h b)
    exact ⟨same .pending, same .clock, same .pool, same .recipes, same .row, same .zones,
      same .feeder, same .tuner, same .exit, same .line, same .link, same .restart, same .mail,
      same .pins, same .sent⟩
  · rintro ⟨hpending, hclock, hpool, hrecipes, hrow, hzones, hfeeder, htuner, hexit, hline, hlink,
      hrestart, hmail, hpins, hsent⟩ b hb
    cases b with
    | pending => exact hpending.resolve_left hb
    | clock => exact hclock.resolve_left hb
    | pool => exact hpool.resolve_left hb
    | recipes => exact hrecipes.resolve_left hb
    | row => exact hrow.resolve_left hb
    | zones => exact hzones.resolve_left hb
    | feeder => exact hfeeder.resolve_left hb
    | tuner => exact htuner.resolve_left hb
    | exit => exact hexit.resolve_left hb
    | line => exact hline.resolve_left hb
    | link => exact hlink.resolve_left hb
    | restart => exact hrestart.resolve_left hb
    | mail => exact hmail.resolve_left hb
    | pins => exact hpins.resolve_left hb
    | sent => exact hsent.resolve_left hb

theorem UnchangedBut.refl (l : List Block) (s : State) : UnchangedBut l s s := by
  simp [unchangedBut_iff]

theorem UnchangedBut.trans {l : List Block} {s t u : State} (h : UnchangedBut l s t)
    (h' : UnchangedBut l t u) : UnchangedBut l s u := by
  intro b hb
  have h₁ := h b hb
  have h₂ := h' b hb
  cases b <;> exact h₂.trans h₁

theorem UnchangedBut.mono {l l' : List Block} {s t : State} (h : UnchangedBut l s t) (hl : l ⊆ l') :
    UnchangedBut l' s t :=
  fun b hb => h b fun hmem => hb (hl hmem)

/-! ## Requests on records, recipes and the link -/

section
variable (s : State)

theorem State.load_frame (tag recipe mass initial : Nat) :
    UnchangedBut [.pool, .recipes] s (s.load tag recipe mass initial).2 := by
  simp only [State.load]
  repeat' split
  all_goals simp [unchangedBut_iff, refuse, accept, State.createRecord]

theorem State.moveUser_frame (old new : RecipeId) :
    UnchangedBut [.recipes] s (s.moveUser old new) := by
  simp only [State.moveUser]
  split <;> simp [unchangedBut_iff]

theorem State.tellMark_frame (r : BilletRecord) : UnchangedBut [.mail] s (s.tellMark r) := by
  simp only [State.tellMark]
  split <;> simp [unchangedBut_iff]

theorem State.applyAmend_frame (r : BilletRecord) (parts : Nat) (offset : Int)
    (k : Option RecipeId) :
    UnchangedBut [.pool, .recipes, .mail] s (s.applyAmend r parts offset k) := by
  have hrecord : UnchangedBut [.pool, .recipes, .mail] s
      (s.modifyRecord r.tag (amendRecord parts offset k)) := by simp [unchangedBut_iff]
  have huser := hrecord.trans ((State.moveUser_frame _ r.recipe (k.getD r.recipe)).mono (by simp))
  simp only [State.applyAmend]
  split
  · exact huser.trans ((State.tellMark_frame _ r).mono (by simp))
  · exact huser

theorem State.amend_frame (tag parts : Nat) (offset : Int) (recipe : Nat) :
    UnchangedBut [.pool, .recipes, .mail] s (s.amend tag parts offset recipe).2 := by
  simp only [State.amend]
  split
  · exact .refl _ _
  · exact State.applyAmend_frame s _ parts offset _

theorem State.amendUnnamed_unchanged (tag parts recipe : Nat) :
    (s.amendUnnamed tag parts recipe).2 = s := by
  simp only [State.amendUnnamed]
  split <;> rfl

theorem State.withdraw_frame (tag : Nat) :
    UnchangedBut [.pool, .recipes, .link] s (s.withdraw tag).2 := by
  simp only [State.withdraw]
  repeat' split
  all_goals simp [unchangedBut_iff, refuse, accept]

theorem State.writeRecipe_frame (recipe validity : Nat) (f : RecipeFields) :
    UnchangedBut [.recipes] s (s.writeRecipe recipe validity f).2 := by
  simp only [State.writeRecipe]
  repeat' split
  all_goals simp [unchangedBut_iff, refuse, accept]

theorem State.resetBias_frame (selection : Nat) :
    UnchangedBut [.recipes] s (s.resetBias selection).2 := by
  simp only [State.resetBias]
  repeat' split
  all_goals simp [unchangedBut_iff, refuse, accept]

theorem State.failFrame_frame (check : FrameCheck) :
    UnchangedBut [.link] s (s.failFrame check).2 := by
  simp [unchangedBut_iff, State.failFrame]

theorem State.acknowledge_frame (w : Nat) : UnchangedBut [.link] s (s.acknowledge w).2 := by
  simp only [State.acknowledge]
  split <;> simp [unchangedBut_iff, refuse, accept]

theorem State.replaceMasks_frame (w : Nat) : UnchangedBut [.link] s (s.replaceMasks w).2 := by
  simp only [State.replaceMasks]
  split <;> simp [unchangedBut_iff, refuse, accept]

theorem State.replaceEdges_frame (f : EdgeFields) :
    UnchangedBut [.link] s (s.replaceEdges f).2 := by
  simp only [State.replaceEdges]
  repeat' split
  all_goals simp [unchangedBut_iff, refuse, accept]

/-! ## Requests on the row, the zones, the tuner and the line -/

theorem State.setRowLength_frame (value : Nat) :
    UnchangedBut [.row] s (s.setRowLength value).2 := by
  simp only [State.setRowLength]
  repeat' split
  all_goals simp [unchangedBut_iff, refuse, accept]

theorem State.placePointer_frame : UnchangedBut [.tuner] s s.placePointer := by
  simp only [State.placePointer]
  repeat' split
  all_goals simp [unchangedBut_iff]

theorem State.writeZone_frame (z : ZoneId) (m : ZoneMap) (band : Band) :
    UnchangedBut [.zones, .tuner, .link] s (s.writeZone z m band) := by
  refine .trans ?_ ((State.placePointer_frame _).mono (by simp))
  simp [unchangedBut_iff]

theorem State.setZoneMap_frame (zone : Nat) (f : ZoneFields) :
    UnchangedBut [.zones, .tuner, .link] s (s.setZoneMap zone f).2 := by
  simp only [State.setZoneMap]
  repeat' split
  any_goals exact .refl _ _
  exact State.writeZone_frame s _ _ _

theorem State.setLine_frame (parts : Nat) (f : LineFields) :
    UnchangedBut [.feeder, .tuner, .line, .link] s (s.setLine parts f).2 := by
  simp only [State.setLine]
  repeat' split
  all_goals simp [unchangedBut_iff, refuse, accept, State.storeParameters]

theorem State.modeAction_frame {l : List Block} (ok : Bool) {act : State → State}
    (h : UnchangedBut l s (act s)) : UnchangedBut l s (s.modeAction ok act).2 := by
  simp only [State.modeAction]
  split
  · exact h
  · exact .refl _ _

theorem State.enterRun_frame : UnchangedBut [.line, .row] s s.enterRun := by
  simp [unchangedBut_iff]

theorem State.enterHold_frame (cause : HoldCause) :
    UnchangedBut [.line, .link] s (s.enterHold cause) := by
  simp [unchangedBut_iff]

theorem State.enterTripped_frame (cause : TripCause) :
    UnchangedBut [.zones, .sent, .mail, .line, .link] s (s.enterTripped cause) := by
  simp [unchangedBut_iff]

theorem State.start_frame : UnchangedBut [.line, .row] s s.start.2 := by
  simp only [State.start]
  repeat' split
  any_goals exact .refl _ _
  exact State.enterRun_frame s

theorem State.drainNow_frame : UnchangedBut [.line] s s.drainNow := by
  simp [unchangedBut_iff, State.drainNow]

theorem State.leaveTrip_frame : UnchangedBut [.line, .link] s s.leaveTrip := by
  simp only [State.leaveTrip]
  split <;> simp [unchangedBut_iff]

theorem State.clearTrip_frame : UnchangedBut [.line, .link] s s.clearTrip.2 := by
  simp only [State.clearTrip]
  repeat' split
  any_goals exact .refl _ _
  exact State.leaveTrip_frame s

theorem State.leaveService_frame : UnchangedBut [.line, .tuner] s s.leaveService.2 := by
  simp only [State.leaveService]
  repeat' split
  all_goals simp [unchangedBut_iff, State.modeResponse]

theorem State.startTuneAll_frame : UnchangedBut [.tuner, .mail] s s.startTuneAll.2 := by
  simp only [State.startTuneAll]
  repeat' split
  all_goals simp [unchangedBut_iff, refuse, accept, State.sendOrder]

/-! ## The exit station -/

theorem State.serveTake_frame : UnchangedBut [.pool, .exit, .link] s s.serveTake := by
  simp [unchangedBut_iff]

theorem State.enterRejecting_frame (tag : Nat) (o : BilletOutcome) :
    UnchangedBut [.pool, .exit, .link] s (s.enterRejecting tag o) := by
  simp [unchangedBut_iff]

theorem State.enterReady_frame : UnchangedBut [.pool, .exit, .link] s s.enterReady := by
  simp [unchangedBut_iff, State.enterReady]

theorem State.applyResync_frame (r : BilletRecord) (measured : Nat) :
    UnchangedBut [.pool, .mail] s (s.applyResync r measured) := by
  simp only [State.applyResync]
  split <;> simp [unchangedBut_iff]

theorem State.closeWindow_frame : UnchangedBut [.pool, .exit, .mail, .link] s s.closeWindow := by
  simp only [State.closeWindow]
  split
  · exact .refl _ _
  split
  · exact (State.enterRejecting_frame s _ _).mono (by simp)
  split
  · exact ((State.applyResync_frame s _ _).mono (by simp)).trans
      ((State.enterRejecting_frame _ _ _).mono (by simp))
  · exact ((State.applyResync_frame s _ _).mono (by simp)).trans
      ((State.enterReady_frame _).mono (by simp))

theorem State.takeReading_frame (value : Nat) (valid : Bool) :
    UnchangedBut [.pool, .exit, .mail, .link] s (s.takeReading value valid) := by
  simp only [State.takeReading]
  repeat' split
  · exact .trans (by simp [unchangedBut_iff]) (State.closeWindow_frame _)
  all_goals simp [unchangedBut_iff]

theorem State.actOnStep_frame (ref : RecordRef) :
    UnchangedBut [.pool, .exit, .link] s (s.actOnStep ref) := by
  simp only [State.actOnStep]
  repeat' split
  all_goals simp [unchangedBut_iff]

theorem State.takeStep_frame : UnchangedBut [.pool, .exit, .mail, .link] s s.takeStep := by
  simp only [State.takeStep]
  split
  · exact .refl _ _
  · exact .trans (by simp [unchangedBut_iff]) ((State.actOnStep_frame _ _).mono (by simp))

theorem State.actOnMark_frame (ref : RecordRef) :
    UnchangedBut [.pool, .exit, .link] s (s.actOnMark ref) := by
  simp only [State.actOnMark]
  split <;> simp [unchangedBut_iff]

theorem State.takeMark_frame : UnchangedBut [.pool, .exit, .mail, .link] s s.takeMark := by
  simp only [State.takeMark]
  split
  · exact .refl _ _
  · exact .trans (by simp [unchangedBut_iff]) ((State.actOnMark_frame _ _).mono (by simp))

theorem State.takeRequest_frame : UnchangedBut [.pool, .exit, .link] s s.takeRequest := by
  refine .trans ?_ (State.serveTake_frame _)
  split <;> simp [unchangedBut_iff]

theorem State.vacate_frame (o : BilletOutcome) :
    UnchangedBut [.pool, .recipes, .exit, .link] s (s.vacate o) := by
  simp [unchangedBut_iff]

theorem State.endTransfer_frame (o : BilletOutcome) :
    UnchangedBut [.pool, .recipes, .exit, .link, .line] s (s.endTransfer o) := by
  simp [unchangedBut_iff]

theorem State.pressDone_frame :
    UnchangedBut [.pool, .recipes, .exit, .link, .line] s s.pressDone := by
  simp only [State.pressDone]
  split
  · exact State.endTransfer_frame s _
  · simp [unchangedBut_iff]

theorem State.chuteDone_frame :
    UnchangedBut [.pool, .recipes, .exit, .link, .line] s s.chuteDone := by
  simp only [State.chuteDone]
  split
  · exact State.endTransfer_frame s _
  · simp [unchangedBut_iff]

theorem State.retireInFlight_frame :
    UnchangedBut [.pool, .recipes, .exit, .link, .line] s s.retireInFlight := by
  simp only [State.retireInFlight]
  split
  · exact State.endTransfer_frame s _
  · exact .refl _ _

/-! ## Time and the timers -/

theorem State.reach_frame (due : Nat) : UnchangedBut [.clock, .zones] s (s.reach due) := by
  simp [unchangedBut_iff]

theorem State.expireWindow_frame :
    UnchangedBut [.clock, .zones, .pool, .exit, .mail, .link] s s.expireWindow := by
  simp only [State.expireWindow]
  repeat' split
  · exact .refl _ _
  · exact ((State.reach_frame s _).mono (by simp)).trans
      ((State.closeWindow_frame _).mono (by simp))
  · exact .refl _ _

theorem State.expireTransfer_frame :
    UnchangedBut [.clock, .zones, .pool, .recipes, .exit, .link, .line] s s.expireTransfer := by
  simp only [State.expireTransfer]
  repeat' split
  · exact .refl _ _
  · exact ((State.reach_frame s _).mono (by simp)).trans
      ((State.endTransfer_frame _ _).mono (by simp))
  · exact .refl _ _

theorem State.expireAutoHold_frame :
    UnchangedBut [.clock, .zones, .line, .link] s s.expireAutoHold := by
  simp only [State.expireAutoHold]
  repeat' split
  all_goals simp [unchangedBut_iff]

theorem State.expireStroke_frame :
    UnchangedBut [.clock, .zones, .row, .line, .link] s s.expireStroke := by
  simp only [State.expireStroke]
  split
  · exact .refl _ _
  · split <;> simp [unchangedBut_iff]

theorem State.expireZone_frame {l : List Block} (z : ZoneId) (runsIn : ZoneState)
    {act : State → State} (h : ∀ u, UnchangedBut (.clock :: .zones :: l) u (act u)) :
    UnchangedBut (.clock :: .zones :: l) s (s.expireZone z runsIn act) := by
  simp only [State.expireZone]
  repeat' split
  · exact .refl _ _
  · exact ((State.reach_frame s _).mono (by simp)).trans (h _)
  · exact .refl _ _

/-! ## The row -/

theorem State.beginStroke_frame : UnchangedBut [.row] s s.beginStroke := by
  simp only [State.beginStroke]
  split <;> simp [unchangedBut_iff]

theorem State.handOff_frame (tag : Nat) :
    UnchangedBut [.pool, .recipes, .exit, .link] s (s.handOff tag) := by
  simp only [State.handOff]
  split <;> simp [unchangedBut_iff]

theorem State.shift_frame : UnchangedBut [.row, .pool, .recipes, .exit, .link] s s.shift := by
  simp only [State.shift]
  refine .trans ?_ (t := (s.row.ejected.map s.handOff).getD s) ?_
  · cases s.row.ejected with
    | none => exact .refl _ _
    | some tag => exact (State.handOff_frame s tag).mono (by simp)
  · simp [unchangedBut_iff, State.advanceRow]

theorem State.endStroke_frame :
    UnchangedBut [.row, .pool, .recipes, .exit, .link, .line] s s.endStroke := by
  simp only [State.endStroke]
  have hshift := (State.shift_frame
    { s with row := { s.row with stroke := .idle, strokeTimer := none } }).mono
      (l' := [.row, .pool, .recipes, .exit, .link, .line]) (by simp)
  refine .trans (by simp [unchangedBut_iff]) (hshift.trans ?_)
  dsimp only
  split <;> simp [unchangedBut_iff, State.testQueue]

theorem State.homeEdge_frame :
    UnchangedBut [.row, .pool, .recipes, .exit, .link, .line] s s.homeEdge := by
  simp only [State.homeEdge]
  split
  · exact State.endStroke_frame s
  · simp [unchangedBut_iff]

/-! ## Level inputs -/

theorem State.pressReadyChanged_frame (active : Bool) :
    UnchangedBut [.line] s (s.pressReadyChanged active) := by
  simp only [State.pressReadyChanged]
  repeat' split
  all_goals simp [unchangedBut_iff]

theorem State.feederFaultChanged_frame (active : Bool) :
    UnchangedBut [.zones, .sent, .mail, .line, .link] s (s.feederFaultChanged active) := by
  simp only [State.feederFaultChanged]
  repeat' split
  all_goals simp [unchangedBut_iff]

/-! ## Messages between blocks -/

theorem State.takeUpdate_frame : UnchangedBut [.recipes, .mail] s s.takeUpdate := by
  simp only [State.takeUpdate]
  split
  · exact .refl _ _
  · split <;> simp [unchangedBut_iff]

theorem State.absorb_frame (report : Report) : UnchangedBut [.pool, .mail] s (s.absorb report) := by
  simp only [State.absorb]
  split <;> simp [unchangedBut_iff, State.stepEntries]

theorem State.takeReport_frame (origin : Option ZoneId) :
    UnchangedBut [.pool, .mail] s (s.takeReport origin) := by
  simp only [State.takeReport]
  repeat' split
  · exact .trans (by simp [unchangedBut_iff]) (State.absorb_frame _ _)
  · exact .refl _ _
  · exact .refl _ _

theorem State.takeCredit_frame (z : ZoneId) : UnchangedBut [.zones, .mail] s (s.takeCredit z) := by
  simp only [State.takeCredit]
  split <;> simp [unchangedBut_iff]

theorem State.arbitrate_frame : UnchangedBut [.feeder, .mail] s s.arbitrate := by
  simp [unchangedBut_iff, State.arbitrate]

theorem State.enterDemand_frame (m : DemandMessage) :
    UnchangedBut [.feeder, .mail] s (s.enterDemand m) := by
  simp only [State.enterDemand]
  repeat' split
  · exact .trans (by simp [unchangedBut_iff]) (State.arbitrate_frame _)
  all_goals simp [unchangedBut_iff]

theorem State.takeDemand_frame (z : ZoneId) : UnchangedBut [.feeder, .mail] s (s.takeDemand z) := by
  simp only [State.takeDemand]
  split
  · exact .refl _ _
  · exact .trans (by simp [unchangedBut_iff]) (State.enterDemand_frame _ _)

theorem State.actOnGrant_frame (z : ZoneId) (kW : Nat) :
    UnchangedBut [.zones, .sent] s (s.actOnGrant z kW) := by
  simp only [State.actOnGrant]
  repeat' split
  all_goals simp [unchangedBut_iff, State.startZone, State.discardGrant]

theorem State.takeGrant_frame (z : ZoneId) :
    UnchangedBut [.zones, .sent, .mail] s (s.takeGrant z) := by
  simp only [State.takeGrant]
  split
  · exact .refl _ _
  · exact .trans (by simp [unchangedBut_iff]) ((State.actOnGrant_frame _ _ _).mono (by simp))

theorem State.takeNotice_frame : UnchangedBut [.tuner, .mail] s s.takeNotice := by
  simp only [State.takeNotice, State.actOnNotice]
  repeat' split
  all_goals simp [unchangedBut_iff, State.sendOrder]

theorem State.takeOrder_frame (z : ZoneId) :
    UnchangedBut [.zones, .sent, .mail] s (s.takeOrder z) := by
  simp only [State.takeOrder, State.actOnOrder]
  repeat' split
  all_goals simp [unchangedBut_iff]

theorem State.advancePointer_frame (z : ZoneId) : UnchangedBut [.tuner] s (s.advancePointer z) := by
  simp only [State.advancePointer]
  split <;> simp [unchangedBut_iff]

theorem State.endRegular_frame (z : ZoneId) (o : TuneOutcome) :
    UnchangedBut [.tuner] s (s.endRegular z o) := by
  refine .trans (t := { s with tuner := { s.tuner with regularZone := none } })
    (by simp [unchangedBut_iff]) ?_
  cases o with
  | succeeded => exact State.advancePointer_frame _ z
  | failed => exact State.advancePointer_frame _ z
  | refused => exact .refl _ _
  | abandoned => exact .refl _ _

theorem State.actOnOutcome_frame (z : ZoneId) (o : TuneOutcome) :
    UnchangedBut [.tuner, .mail] s (s.actOnOutcome z o) := by
  simp only [State.actOnOutcome, State.advanceTuneAll]
  repeat' split
  · exact (State.endRegular_frame s z o).mono (by simp)
  all_goals simp [unchangedBut_iff, State.sendOrder]

theorem State.takeOutcome_frame (z : ZoneId) :
    UnchangedBut [.tuner, .mail] s (s.takeOutcome z) := by
  simp only [State.takeOutcome]
  split
  · exact .refl _ _
  · exact .trans (by simp [unchangedBut_iff]) (State.actOnOutcome_frame _ _ _)

/-! ## The round boundary -/

theorem State.closeMeters_frame :
    UnchangedBut [.zones, .mail, .sent, .link] s s.closeMeters := by
  simp [unchangedBut_iff, State.closeMeters]

/-- The collection of a boundary as it is opened, an open one being closed unsettled (R102, R103). -/
def State.collecting : State :=
  { s with feeder := { s.feeder with
    unsettledRounds :=
      if s.feeder.collection = .collecting then satAdd Config.counterMax s.feeder.unsettledRounds 1
      else s.feeder.unsettledRounds
    collection := .collecting
    collectionTime := s.clock.count
    expected := Vector.ofFn fun z => s.zones[z].map.enabled
    demands := Vector.replicate 12 none } }

theorem State.openCollection_eq :
    s.openCollection = if s.collecting.feeder.complete then s.collecting.arbitrate
      else s.collecting := rfl

theorem State.openCollection_frame : UnchangedBut [.feeder, .mail] s s.openCollection := by
  have hopened : UnchangedBut [.feeder, .mail] s s.collecting := by
    simp [unchangedBut_iff, State.collecting]
  rw [State.openCollection_eq]
  split
  · exact hopened.trans (State.arbitrate_frame _)
  · exact hopened

theorem State.takeBoundary_frame :
    UnchangedBut [.zones, .mail, .sent, .row, .clock, .feeder, .link] s s.takeBoundary := by
  unfold State.takeBoundary
  generalize hu : s.reach (s.feeder.roundStart + Config.roundMs) = u
  have hreach := State.reach_frame s (s.feeder.roundStart + Config.roundMs)
  rw [hu] at hreach
  have hmark : UnchangedBut [.row, .clock, .feeder] u.closeMeters
      u.closeMeters.countRound.markBoundary := by
    simp [unchangedBut_iff, State.countRound, State.markBoundary]
  exact (hreach.mono (by simp)).trans (((State.closeMeters_frame u).mono (by simp)).trans
    ((hmark.mono (by simp)).trans ((State.openCollection_frame _).mono (by simp))))

/-! ## Inverter reports -/

theorem State.enterFaulted_frame (z : ZoneId) (cause : FaultCause) :
    UnchangedBut [.zones, .link, .mail] s (s.enterFaulted z cause) := by
  simp [unchangedBut_iff]

theorem State.judgeTuned_frame (z : ZoneId) (efficiency : Nat) :
    UnchangedBut [.zones, .link, .mail] s (s.judgeTuned z efficiency) := by
  simp only [State.judgeTuned]
  split <;> simp [unchangedBut_iff]

/-! ## Controller restart -/

theorem State.restartEntry_frame (cause : RestartCause) :
    UnchangedBut [.zones, .sent, .mail, .line, .row, .exit, .tuner, .restart, .link] s
      (s.restartEntry cause) := by
  simp [unchangedBut_iff, State.restartEntry]

theorem foldl_absorb_frame (reports : List Report) :
    UnchangedBut [.pool, .mail] s (reports.foldl State.absorb s) := by
  induction reports generalizing s with
  | nil => exact .refl _ _
  | cons report rest ih => exact (State.absorb_frame s report).trans (ih _)

theorem State.takeHeldReports_frame : UnchangedBut [.pool, .mail] s s.takeHeldReports :=
  .trans (by simp [unchangedBut_iff]) (foldl_absorb_frame _ _)

theorem State.catchUp_frame : UnchangedBut [.pool, .mail] s s.catchUp := by
  simp [unchangedBut_iff, State.catchUp]

theorem State.releaseBillets_frame (retireFirst : Bool) :
    UnchangedBut [.pool, .recipes, .exit, .link, .line, .mail] s
      (s.releaseBillets retireFirst).1 := by
  have hretire := fun u => (State.retireInFlight_frame u).mono
    (l' := [.pool, .recipes, .exit, .link, .line, .mail]) (by simp)
  have hreports := fun u => (State.takeHeldReports_frame u).mono
    (l' := [.pool, .recipes, .exit, .link, .line, .mail]) (by simp)
  have hcatch := fun u => (State.catchUp_frame u).mono
    (l' := [.pool, .recipes, .exit, .link, .line, .mail]) (by simp)
  cases retireFirst with
  | true => exact (hretire s).trans ((hreports _).trans (hcatch _))
  | false => exact (hreports s).trans ((hcatch _).trans (hretire _))

theorem State.restartWindow_frame : UnchangedBut [.exit] s s.restartWindow := by
  simp only [State.restartWindow]
  split <;> simp [unchangedBut_iff]

/-- The part of a release before its billets: time, the recovery timers and the other blocks (R169). -/
def State.released (h : RestartHold) : State :=
  ((if h.cause = .request then s.reach (h.entryTime + Config.restartHoldMs) else s).endHold
    h).releaseBlocks

theorem State.release_eq (h : RestartHold) (retireFirst : Bool) :
    s.release h retireFirst =
      { ((s.released h).releaseBillets retireFirst).1.restartWindow with
        restart := { ((s.released h).releaseBillets retireFirst).1.restartWindow.restart with
          count := satAdd Config.counterMax
            ((s.released h).releaseBillets retireFirst).1.restartWindow.restart.count 1
          last := some ((s.released h).restartRecord h
            ((s.released h).releaseBillets retireFirst).2) } } := rfl

theorem State.released_frame (h : RestartHold) :
    UnchangedBut [.clock, .zones, .restart, .pins, .line, .feeder, .link] s (s.released h) := by
  unfold State.released
  split <;> simp [unchangedBut_iff, State.endHold, State.releaseBlocks]

theorem State.release_frame (h : RestartHold) (retireFirst : Bool) :
    UnchangedBut [.clock, .zones, .restart, .pins, .line, .feeder, .link, .pool, .recipes, .exit,
      .mail] s (s.release h retireFirst) := by
  have hbillets := (State.releaseBillets_frame (s.released h) retireFirst).mono
    (l' := [.clock, .zones, .restart, .pins, .line, .feeder, .link, .pool, .recipes, .exit, .mail])
    (by simp)
  have hwindow := (State.restartWindow_frame ((s.released h).releaseBillets retireFirst).1).mono
    (l' := [.clock, .zones, .restart, .pins, .line, .feeder, .link, .pool, .recipes, .exit, .mail])
    (by simp)
  rw [State.release_eq]
  exact ((State.released_frame s h).mono (by simp)).trans
    (hbillets.trans (hwindow.trans (by simp [unchangedBut_iff])))

end

/-! ## Every command: its effect and the blocks it can change -/

/-- The taking of a request: its act, and then the response. -/
def State.answering (act : State → Response × State) (s : State) : State :=
  (act s).2.respond (act s).1

/-- QUERY_BILLET's answer (R14). -/
def State.queryBillet (s : State) (tag : Nat) : Response × State :=
  match s.lookup tag with
  | none => refuse .noSuchTag s
  | some r => accept (.snapshot (s.snapshot r)) s

/-- QUERY_POSITION's answer (R15). -/
def State.queryPosition (s : State) (position : Nat) : Response × State :=
  if position < s.row.length then accept (.tag ((s.row.tagAt position).getD 0)) s
  else refuse .badValue s

/-- AMEND_BILLET with its parts byte (R16, section 11.3). -/
def State.amendBillet (s : State) (tag parts : Nat) (offset : Int) (recipe : Nat) :
    Response × State :=
  if amendPartsNamed parts then s.amend tag parts offset recipe else s.amendUnnamed tag parts recipe

/-- READ_LAST_RETIRED's answer (R20, R21). -/
def State.readLastRetired (s : State) (clear : Nat) : Response × State :=
  match yesNoOf clear with
  | none => refuse .badValue s
  | some false => accept (.lastRetired s.pool.lastRetired s.pool.outcomes) s
  | some true =>
      accept (.lastRetired s.pool.lastRetired s.pool.outcomes)
        { s with pool := { s.pool with outcomes := Vector.replicate 10 0 } }

/-- READ_RECIPE's answer (R34). -/
def State.readRecipe (s : State) (recipe : Nat) : Response × State :=
  match recipeOf recipe with
  | none => refuse .badValue s
  | some k => accept (.recipe s.recipes[k]) s

/-- READ_ZONE's answer (R100). -/
def State.readZone (s : State) (zone : Nat) : Response × State :=
  match zoneOf zone with
  | none => refuse .badValue s
  | some z => accept (.zone (s.zoneView z)) s

/-- SET_ZONE_BAND (R97). -/
def State.setZoneBand (s : State) (zone band : Nat) : Response × State :=
  match zoneOf zone, bandOf band with
  | some z, some b =>
      accept (.zone ((s.modifyZone z (ZoneChannel.requestBand b)).zoneView z))
        (s.modifyZone z (ZoneChannel.requestBand b))
  | some _, none => refuse .badValue s
  | none, _ => refuse .badValue s

/-- CLEAR_ZONE_FAULT (R90). -/
def State.clearZoneFault (s : State) (zone : Nat) : Response × State :=
  match zoneOf zone with
  | none => refuse .badValue s
  | some z =>
      if s.zones[z].state = .faulted then
        if s.zones[z].lastReport = some .fault then
          ({ status := .faultLatched, payload := .zone (s.zoneView z) }, s)
        else accept (.zone ((s.enterStopping z).zoneView z)) (s.enterStopping z)
      else accept (.zone (s.zoneView z)) s

/-- MODE START, or a MODE request whose action byte names no action (R151, R152). -/
def State.modeStart (s : State) (unnamed : Option Nat) : Response × State :=
  match unnamed with
  | some _ => s.modeResponse .badValue
  | none => s.start

/-- RUNNING at a zone's port (R82, R85). -/
def State.takeRunning (s : State) (z : ZoneId) : State :=
  if (s.noteReport z .running).zones[z].state = .starting then (s.noteReport z .running).turnOn z
  else (s.noteReport z .running).strayAt z

/-- TUNED at a zone's port (R82, R88). -/
def State.takeTuned (s : State) (z : ZoneId) (efficiency : Nat) : State :=
  if (s.noteReport z .tuned).zones[z].state = .tuning then
    (s.noteReport z .tuned).judgeTuned z efficiency
  else (s.noteReport z .tuned).strayAt z

/-- FAULT at a zone's port (R82, R89). -/
def State.takeFault (s : State) (z : ZoneId) (code : Nat) : State :=
  ((s.noteReport z .fault).modifyZone z fun c => { c with inverterCode := some code }).enterFaulted z
    .inverter

/-- RESTART_RELEASE: the restart in its hold, if there is one, is released (R169). -/
def State.releaseHeld (s : State) (retireFirst : Bool) : State :=
  match s.restart.hold with
  | some (.restart h) => s.release h retireFirst
  | _ => s

/-- What a command does when it is taken. -/
def effect : Instr → State → State
  | .powerOnReset .held => State.holdPowerOn
  | .powerOnReset (.released levels) => fun s => s.releasePowerOn levels
  | .ctrlResetAsserted => fun s => s.restartEntry .ctrlReset
  | .restartRelease first => fun s => s.releaseHeld first
  | .frameError check _ => State.answering fun s => s.failFrame check
  | .nop _ => fun s => s
  | .readStatus _ => State.answering fun s => accept (.status s.statusView) s
  | .loadBillet _ tag recipe mass initial =>
      State.answering fun s => s.load tag recipe mass initial
  | .queryBillet _ tag => State.answering fun s => s.queryBillet tag
  | .queryPosition _ position => State.answering fun s => s.queryPosition position
  | .queryRow _ => State.answering fun s => accept (.tags s.rowTags) s
  | .amendBillet _ tag parts offset recipe =>
      State.answering fun s => s.amendBillet tag parts offset recipe
  | .withdrawBillet _ tag => State.answering fun s => s.withdraw tag
  | .readLastRetired _ clear => State.answering fun s => s.readLastRetired clear
  | .writeRecipe _ recipe validity f => State.answering fun s => s.writeRecipe recipe validity f
  | .readRecipe _ recipe => State.answering fun s => s.readRecipe recipe
  | .resetBias _ selection => State.answering fun s => s.resetBias selection
  | .setZone _ zone f => State.answering fun s => s.setZoneMap zone f
  | .readZone _ zone => State.answering fun s => s.readZone zone
  | .setZoneBand _ zone band => State.answering fun s => s.setZoneBand zone band
  | .clearZoneFault _ zone => State.answering fun s => s.clearZoneFault zone
  | .setRowLength _ value => State.answering fun s => s.setRowLength value
  | .setLine _ parts f => State.answering fun s => s.setLine parts f
  | .readLine _ => State.answering fun s => accept (.line s.lineView) s
  | .modeStart _ unnamed => State.answering fun s => s.modeStart unnamed
  | .modeHold _ =>
      State.answering fun s => s.modeAction s.line.mode.pushing fun s => s.enterHold .request
  | .modeResume _ => State.answering fun s =>
      s.modeAction (s.line.mode = .hold || s.line.mode = .drain) State.enterRun
  | .modeDrain _ => State.answering fun s =>
      s.modeAction (s.line.mode = .run || s.line.mode = .hold) State.drainNow
  | .modeTrip _ =>
      State.answering fun s => s.modeAction s.line.mode.production fun s => s.enterTripped .request
  | .modeClearTrip _ => State.answering State.clearTrip
  | .modeService _ =>
      State.answering fun s => s.modeAction (s.line.mode = .stopped) State.enterService
  | .modeLeaveService _ => State.answering State.leaveService
  | .tuneAll _ => State.answering State.startTuneAll
  | .ackAttention _ flagSet => State.answering fun s => s.acknowledge flagSet
  | .setMasks _ maskSet => State.answering fun s => s.replaceMasks maskSet
  | .setEdges _ f => State.answering fun s => s.replaceEdges f
  | .restart _ => fun s => s.restartEntry .request
  | .strokeBegin e => fun s => if s.link.edges.pushFwd.counts e then s.beginStroke else s
  | .strokeEnd e => fun s => if s.link.edges.pushHome.counts e then s.homeEdge else s
  | .strokeTimerExpiry => State.expireStroke
  | .takeEdge e => fun s => if s.link.edges.take.counts e then s.takeRequest else s
  | .pressDoneEdge e => fun s => if s.link.edges.pressDone.counts e then s.pressDone else s
  | .chuteDoneEdge e => fun s => if s.link.edges.chuteDone.counts e then s.chuteDone else s
  | .transferTimerExpiry => State.expireTransfer
  | .pressReadyChange active => fun s => s.pressReadyChanged active
  | .autoHoldExpiry => State.expireAutoHold
  | .feederFaultChange active => fun s => s.feederFaultChanged active
  | .pyrometerReading value valid => fun s => s.takeReading value valid
  | .measurementWindowExpiry => State.expireWindow
  | .stepNotice => State.takeStep
  | .markNotice => State.takeMark
  | .adaptationUpdate => State.takeUpdate
  | .roundBoundary => State.takeBoundary
  | .energyReport z => fun s => s.takeReport (some z)
  | .unheatedReport => fun s => s.takeReport none
  | .idleCredit z => fun s => s.takeCredit z
  | .demandReport z => fun s => s.takeDemand z
  | .grant z => fun s => s.takeGrant z
  | .roundNotice => State.takeNotice
  | .tuneOrder z => fun s => s.takeOrder z
  | .tuneOutcome z => fun s => s.takeOutcome z
  | .inverterRunning z => fun s => s.takeRunning z
  | .inverterTuned z efficiency => fun s => s.takeTuned z efficiency
  | .inverterFault z code => fun s => s.takeFault z code
  | .inverterHealthy z => fun s => s.noteReport z .healthy
  | .strayReport z => fun s => s.strayAt z
  | .startTimeout z => fun s => s.expireZone z .starting fun s => s.enterFaulted z .startTimeout
  | .recoveryExpiry z => fun s =>
      s.expireZone z .stopping fun s => s.modifyZone z ZoneChannel.toOff
  | .tuneTimeout z => fun s => s.expireZone z .tuning fun s => s.enterFaulted z .tuneTimeout

/-- The levels at the pins after a command: a transition or a level change sets its own pin, also
through a hold (R167). -/
def pinsAfter (pins : Levels) : Instr → Levels
  | .strokeBegin e => { pins with pushFwd := transitionLevel e }
  | .strokeEnd e => { pins with pushHome := transitionLevel e }
  | .takeEdge e => { pins with take := transitionLevel e }
  | .pressDoneEdge e => { pins with pressDone := transitionLevel e }
  | .chuteDoneEdge e => { pins with chuteDone := transitionLevel e }
  | .pressReadyChange active => { pins with pressReady := active }
  | .feederFaultChange active => { pins with feederFault := active }
  | .ctrlResetAsserted => { pins with ctrlReset := true }
  | _ => pins

theorem exec_powerOnReset (edge : PowerOnEdge) (s : State) :
    exec (.powerOnReset edge) s = .next (effect (.powerOnReset edge) s) := by
  cases edge <;> rfl

theorem exec_restartRelease (first : Bool) (s : State) :
    exec (.restartRelease first) s = .next (s.releaseHeld first) := by
  unfold State.releaseHeld
  cases hhold : s.restart.hold with
  | none => simp only [exec, execRestartRelease, hhold]
  | some hold => cases hold <;> simp only [exec, execRestartRelease, hhold]

/-- A command that is a transaction is taken as one (R172). -/
theorem exec_transaction {i : Instr} {c : Nat} (h : transactionBytes i = some c) (s : State) :
    exec i s = s.transaction c (effect i) := by
  cases i
  case modeStart unnamed => cases unnamed <;> cases h <;> rfl
  all_goals cases h <;> rfl

/-- Every other command but the two ends of a hold is an event, after the level at its pin. -/
theorem exec_event {i : Instr} (h : transactionBytes i = none) (s : State)
    (hreset : ∀ edge, i ≠ .powerOnReset edge) (hrelease : ∀ first, i ≠ .restartRelease first) :
    exec i s = ({ s with pins := pinsAfter s.pins i } : State).event (effect i) := by
  cases i
  case powerOnReset edge => exact absurd rfl (hreset edge)
  case restartRelease first => exact absurd rfl (hrelease first)
  any_goals rfl
  all_goals cases h

/-- The blocks a command can change. A request changes the link by its response. -/
def touched : Instr → List Block
  | .powerOnReset _ => [.clock, .pool, .recipes, .row, .zones, .feeder, .tuner, .exit, .line, .link,
      .restart, .mail, .pins, .sent]
  | .ctrlResetAsserted =>
      [.zones, .sent, .mail, .line, .row, .exit, .tuner, .restart, .link, .pins]
  | .restartRelease _ =>
      [.clock, .zones, .restart, .pins, .line, .feeder, .link, .pool, .recipes, .exit, .mail]
  | .restart _ => [.zones, .sent, .mail, .line, .row, .exit, .tuner, .restart, .link]
  | .frameError _ _ | .nop _ | .readStatus _ | .queryBillet _ _ | .queryPosition _ _ | .queryRow _
  | .readRecipe _ _ | .readZone _ _ | .readLine _ | .ackAttention _ _ | .setMasks _ _
  | .setEdges _ _ => [.link]
  | .loadBillet _ _ _ _ _ => [.pool, .recipes, .link]
  | .amendBillet _ _ _ _ _ => [.pool, .recipes, .mail, .link]
  | .withdrawBillet _ _ => [.pool, .recipes, .link]
  | .readLastRetired _ _ => [.pool, .link]
  | .writeRecipe _ _ _ _ | .resetBias _ _ => [.recipes, .link]
  | .setZone _ _ _ => [.zones, .tuner, .link]
  | .setZoneBand _ _ _ => [.zones, .link]
  | .clearZoneFault _ _ => [.zones, .sent, .link]
  | .setRowLength _ _ => [.row, .link]
  | .setLine _ _ _ => [.feeder, .tuner, .line, .link]
  | .modeStart _ _ | .modeResume _ => [.line, .row, .link]
  | .modeHold _ | .modeDrain _ | .modeClearTrip _ | .modeService _ => [.line, .link]
  | .modeTrip _ => [.zones, .sent, .mail, .line, .link]
  | .modeLeaveService _ => [.line, .tuner, .link]
  | .tuneAll _ => [.tuner, .mail, .link]
  | .strokeBegin _ => [.row, .pins]
  | .strokeEnd _ => [.row, .pool, .recipes, .exit, .link, .line, .pins]
  | .strokeTimerExpiry => [.clock, .zones, .row, .line, .link]
  | .takeEdge _ => [.pool, .exit, .link, .pins]
  | .pressDoneEdge _ | .chuteDoneEdge _ => [.pool, .recipes, .exit, .link, .line, .pins]
  | .transferTimerExpiry => [.clock, .zones, .pool, .recipes, .exit, .link, .line]
  | .pressReadyChange _ => [.line, .pins]
  | .autoHoldExpiry => [.clock, .zones, .line, .link]
  | .feederFaultChange _ => [.zones, .sent, .mail, .line, .link, .pins]
  | .pyrometerReading _ _ | .stepNotice | .markNotice => [.pool, .exit, .mail, .link]
  | .measurementWindowExpiry => [.clock, .zones, .pool, .exit, .mail, .link]
  | .adaptationUpdate => [.recipes, .mail]
  | .roundBoundary => [.zones, .mail, .sent, .row, .clock, .feeder, .link]
  | .energyReport _ | .unheatedReport => [.pool, .mail]
  | .idleCredit _ => [.zones, .mail]
  | .demandReport _ => [.feeder, .mail]
  | .grant _ | .tuneOrder _ => [.zones, .sent, .mail]
  | .roundNotice | .tuneOutcome _ => [.tuner, .mail]
  | .inverterRunning _ | .inverterHealthy _ | .strayReport _ => [.zones]
  | .inverterTuned _ _ | .inverterFault _ _ => [.zones, .link, .mail]
  | .startTimeout _ | .tuneTimeout _ => [.clock, .zones, .link, .mail]
  | .recoveryExpiry _ => [.clock, .zones]

/-- The blocks a command changes beside its effect: the link by a transaction's bytes, the pins by a
transition or a level. -/
def quiet (i : Instr) : List Block :=
  match transactionBytes i with
  | some _ => [.link]
  | none =>
      match i with
      | .strokeBegin _ | .strokeEnd _ | .takeEdge _ | .pressDoneEdge _ | .chuteDoneEdge _
      | .pressReadyChange _ | .feederFaultChange _ | .ctrlResetAsserted => [.pins]
      | _ => []

theorem pinsAfter_frame (i : Instr) (s : State) (h : transactionBytes i = none) :
    UnchangedBut (quiet i) s { s with pins := pinsAfter s.pins i } := by
  cases i
  all_goals first
    | (cases h; done)
    | simp [unchangedBut_iff, quiet, pinsAfter, transactionBytes]

/-- The next state of every command: its effect is taken, or it is lost, on a state that differs from
the one before only in the link or the pins. -/
theorem exec_cases {i : Instr} {s t : State} (h : exec i s = .next t) :
    ∃ u : State, UnchangedBut (quiet i) s u ∧ (t = u ∨ t = effect i u) := by
  cases hb : transactionBytes i with
  | some c =>
    have hquiet : quiet i = [.link] := by simp only [quiet, hb]
    rw [exec_transaction hb] at h
    obtain rfl := Host.Outcome.next.inj h
    repeat' split
    · exact ⟨s, .refl _ s, .inl rfl⟩
    · exact ⟨s.shiftEmpty c, by simp [unchangedBut_iff, hquiet], .inl rfl⟩
    · exact ⟨s.settleFetch c, by simp [unchangedBut_iff, hquiet], .inr rfl⟩
  | none =>
    by_cases hreset : ∃ edge, i = .powerOnReset edge
    · obtain ⟨edge, rfl⟩ := hreset
      rw [exec_powerOnReset] at h
      exact ⟨s, .refl _ s, .inr (Host.Outcome.next.inj h).symm⟩
    by_cases hrelease : ∃ first, i = .restartRelease first
    · obtain ⟨first, rfl⟩ := hrelease
      rw [exec_restartRelease] at h
      exact ⟨s, .refl _ s, .inr (Host.Outcome.next.inj h).symm⟩
    rw [exec_event hb s (not_exists.mp hreset) (not_exists.mp hrelease)] at h
    obtain rfl := Host.Outcome.next.inj h
    refine ⟨_, pinsAfter_frame i s hb, ?_⟩
    split
    · exact .inl rfl
    · exact .inr rfl

/-- A request's answer changes what its act changes, and the link. -/
theorem State.answering_frame {l : List Block} {s : State} {act : State → Response × State}
    (hact : UnchangedBut l s (act s).2) (hl : .link ∈ l) :
    UnchangedBut l s (State.answering act s) :=
  hact.trans (by simp [unchangedBut_iff, State.answering, hl])

/-- An edge that its selection does not count has no effect. -/
theorem counted_frame {l : List Block} {s t : State} (b : Bool) (h : UnchangedBut l s t) :
    UnchangedBut l s (if b then t else s) := by
  cases b
  · exact .refl _ _
  · exact h

theorem effect_frame (i : Instr) (s : State) : UnchangedBut (touched i) s (effect i s) := by
  cases i with
  | powerOnReset edge =>
    cases edge with
    | held => simp [unchangedBut_iff, touched, effect, State.holdPowerOn]
    | released levels =>
      simp only [effect, State.releasePowerOn]
      split
      · exact .trans (by simp [unchangedBut_iff, touched, State.powerOn])
          ((State.restartEntry_frame _ _).mono (by simp [touched]))
      · simp [unchangedBut_iff, touched, State.powerOn]
  | ctrlResetAsserted => exact (State.restartEntry_frame s _).mono (by simp [touched])
  | restartRelease first =>
    simp only [effect, State.releaseHeld]
    split
    · exact State.release_frame s _ first
    · exact .refl _ _
  | frameError check _ =>
    exact State.answering_frame (act := fun s => s.failFrame check) (State.failFrame_frame s check)
      (by simp [touched])
  | nop _ => exact .refl _ _
  | readStatus _ => exact State.answering_frame (.refl _ s) (by simp [touched])
  | loadBillet _ tag recipe mass initial =>
    exact State.answering_frame
      ((State.load_frame s tag recipe mass initial).mono (by simp [touched])) (by simp [touched])
  | queryBillet _ tag =>
    refine State.answering_frame ?_ (by simp [touched])
    simp only [State.queryBillet]
    split <;> exact .refl _ _
  | queryPosition _ position =>
    refine State.answering_frame ?_ (by simp [touched])
    simp only [State.queryPosition]
    split <;> exact .refl _ _
  | queryRow _ => exact State.answering_frame (.refl _ s) (by simp [touched])
  | amendBillet _ tag parts offset recipe =>
    refine State.answering_frame ?_ (by simp [touched])
    simp only [State.amendBillet]
    split
    · exact (State.amend_frame s tag parts offset recipe).mono (by simp [touched])
    · rw [State.amendUnnamed_unchanged]
      exact .refl _ _
  | withdrawBillet _ tag =>
    exact State.answering_frame (State.withdraw_frame s tag) (by simp [touched])
  | readLastRetired _ clear =>
    refine State.answering_frame ?_ (by simp [touched])
    simp only [State.readLastRetired]
    split <;> simp [unchangedBut_iff, touched, refuse, accept]
  | writeRecipe _ recipe validity f =>
    exact State.answering_frame
      ((State.writeRecipe_frame s recipe validity f).mono (by simp [touched])) (by simp [touched])
  | readRecipe _ recipe =>
    refine State.answering_frame ?_ (by simp [touched])
    simp only [State.readRecipe]
    split <;> exact .refl _ _
  | resetBias _ selection =>
    exact State.answering_frame ((State.resetBias_frame s selection).mono (by simp [touched]))
      (by simp [touched])
  | setZone _ zone f =>
    exact State.answering_frame (State.setZoneMap_frame s zone f) (by simp [touched])
  | readZone _ zone =>
    refine State.answering_frame ?_ (by simp [touched])
    simp only [State.readZone]
    split <;> exact .refl _ _
  | setZoneBand _ zone band =>
    refine State.answering_frame ?_ (by simp [touched])
    simp only [State.setZoneBand]
    split <;> simp [unchangedBut_iff, touched, refuse, accept]
  | clearZoneFault _ zone =>
    refine State.answering_frame ?_ (by simp [touched])
    simp only [State.clearZoneFault]
    repeat' split
    all_goals simp [unchangedBut_iff, touched, refuse, accept]
  | setRowLength _ value =>
    exact State.answering_frame ((State.setRowLength_frame s value).mono (by simp [touched]))
      (by simp [touched])
  | setLine _ parts f =>
    exact State.answering_frame (State.setLine_frame s parts f) (by simp [touched])
  | readLine _ => exact State.answering_frame (.refl _ s) (by simp [touched])
  | modeStart _ unnamed =>
    refine State.answering_frame ?_ (by simp [touched])
    cases unnamed with
    | none => exact (State.start_frame s).mono (by simp [touched])
    | some b => exact .refl _ _
  | modeHold _ =>
    exact State.answering_frame (State.modeAction_frame s _ (State.enterHold_frame s .request))
      (by simp [touched])
  | modeResume _ =>
    exact State.answering_frame
      (State.modeAction_frame s _ ((State.enterRun_frame s).mono (by simp [touched])))
      (by simp [touched])
  | modeDrain _ =>
    exact State.answering_frame
      (State.modeAction_frame s _ ((State.drainNow_frame s).mono (by simp [touched])))
      (by simp [touched])
  | modeTrip _ =>
    exact State.answering_frame (State.modeAction_frame s _ (State.enterTripped_frame s .request))
      (by simp [touched])
  | modeClearTrip _ => exact State.answering_frame (State.clearTrip_frame s) (by simp [touched])
  | modeService _ =>
    exact State.answering_frame
      (State.modeAction_frame s _ (by simp [unchangedBut_iff, touched])) (by simp [touched])
  | modeLeaveService _ =>
    exact State.answering_frame ((State.leaveService_frame s).mono (by simp [touched]))
      (by simp [touched])
  | tuneAll _ =>
    exact State.answering_frame ((State.startTuneAll_frame s).mono (by simp [touched]))
      (by simp [touched])
  | ackAttention _ flagSet =>
    exact State.answering_frame (State.acknowledge_frame s flagSet) (by simp [touched])
  | setMasks _ maskSet =>
    exact State.answering_frame (State.replaceMasks_frame s maskSet) (by simp [touched])
  | setEdges _ f => exact State.answering_frame (State.replaceEdges_frame s f) (by simp [touched])
  | restart _ => exact State.restartEntry_frame s _
  | strokeBegin e => exact counted_frame _ ((State.beginStroke_frame s).mono (by simp [touched]))
  | strokeEnd e => exact counted_frame _ ((State.homeEdge_frame s).mono (by simp [touched]))
  | strokeTimerExpiry => exact State.expireStroke_frame s
  | takeEdge e => exact counted_frame _ ((State.takeRequest_frame s).mono (by simp [touched]))
  | pressDoneEdge e => exact counted_frame _ ((State.pressDone_frame s).mono (by simp [touched]))
  | chuteDoneEdge e => exact counted_frame _ ((State.chuteDone_frame s).mono (by simp [touched]))
  | transferTimerExpiry => exact State.expireTransfer_frame s
  | pressReadyChange active =>
    exact (State.pressReadyChanged_frame s active).mono (by simp [touched])
  | autoHoldExpiry => exact State.expireAutoHold_frame s
  | feederFaultChange active =>
    exact (State.feederFaultChanged_frame s active).mono (by simp [touched])
  | pyrometerReading value valid => exact State.takeReading_frame s value valid
  | measurementWindowExpiry => exact State.expireWindow_frame s
  | stepNotice => exact State.takeStep_frame s
  | markNotice => exact State.takeMark_frame s
  | adaptationUpdate => exact State.takeUpdate_frame s
  | roundBoundary => exact State.takeBoundary_frame s
  | energyReport z => exact State.takeReport_frame s (some z)
  | unheatedReport => exact State.takeReport_frame s none
  | idleCredit z => exact State.takeCredit_frame s z
  | demandReport z => exact State.takeDemand_frame s z
  | grant z => exact State.takeGrant_frame s z
  | roundNotice => exact State.takeNotice_frame s
  | tuneOrder z => exact State.takeOrder_frame s z
  | tuneOutcome z => exact State.takeOutcome_frame s z
  | inverterRunning z =>
    simp only [effect, State.takeRunning]
    split <;> simp [unchangedBut_iff, touched, State.noteReport, State.turnOn, State.strayAt]
  | inverterTuned z efficiency =>
    simp only [effect, State.takeTuned]
    split
    · exact .trans (by simp [unchangedBut_iff, touched, State.noteReport])
        (State.judgeTuned_frame _ z efficiency)
    · simp [unchangedBut_iff, touched, State.noteReport, State.strayAt]
  | inverterFault z code =>
    exact .trans (by simp [unchangedBut_iff, touched, State.noteReport])
      (State.enterFaulted_frame _ z .inverter)
  | inverterHealthy z => simp [effect, unchangedBut_iff, touched, State.noteReport]
  | strayReport z => simp [effect, unchangedBut_iff, touched, State.strayAt]
  | startTimeout z =>
    exact State.expireZone_frame (l := [.link, .mail])
      (act := fun u => u.enterFaulted z .startTimeout) s z .starting fun u => (State.enterFaulted_frame u z .startTimeout).mono (by simp)
  | recoveryExpiry z =>
    exact State.expireZone_frame (l := []) s z .stopping fun u => by simp [unchangedBut_iff]
  | tuneTimeout z =>
    exact State.expireZone_frame (l := [.link, .mail])
      (act := fun u => u.enterFaulted z .tuneTimeout) s z .tuning fun u => (State.enterFaulted_frame u z .tuneTimeout).mono (by simp)

theorem quiet_subset_touched (i : Instr) : quiet i ⊆ touched i := by
  cases i <;> simp [quiet, touched, transactionBytes]

theorem exec_frame {i : Instr} {s t : State} (h : exec i s = .next t) :
    UnchangedBut (touched i) s t := by
  obtain ⟨u, hu, rfl | rfl⟩ := exec_cases h
  · exact hu.mono (quiet_subset_touched i)
  · exact (hu.mono (quiet_subset_touched i)).trans (effect_frame i u)

/-- No command ends in a fault or a refusal. -/
theorem exec_completes (i : Instr) (s : State) : ∃ t : State, exec i s = .next t := by
  cases i with
  | powerOnReset edge => exact ⟨_, exec_powerOnReset edge s⟩
  | restartRelease first => exact ⟨_, exec_restartRelease first s⟩
  | _ => exact ⟨_, rfl⟩

/-- No command changes the queue of waiting commands. -/
theorem pending_notMem_touched (i : Instr) : .pending ∉ touched i := by
  cases i <;> simp [touched]

/-- Settles O2: `exec_completes`, and the queue stands in no command's frame. -/
theorem everyCommandCompletes : Obligations.EveryCommandCompletes := by
  unfold Obligations.EveryCommandCompletes
  intro i s
  obtain ⟨t, h⟩ := exec_completes i s
  exact ⟨t, h, exec_frame h .pending (pending_notMem_touched i)⟩

/-- Settles O1: by the definition of `step`. -/
theorem stepRunsTheFrontCommand : Obligations.StepRunsTheFrontCommand := by
  unfold Obligations.StepRunsTheFrontCommand
  intro i rest s h
  simp only [step, h]

end Sys2Proof.Machine
end

section
/-! PROOFS. Laws kept by every step: the packaging, and the start history's pacing (R111, R112). -/

namespace Sys2Proof.Machine

/-! ## A law over some blocks, kept by every step -/

/-- A predicate that depends on the named blocks only. -/
def Reads (P : State → Prop) (blocks : List Block) : Prop :=
  ∀ s t : State, (∀ b ∈ blocks, b.Same s t) → P s → P t

/-- A law survives what leaves its blocks alone. -/
theorem Reads.of_frame {P : State → Prop} {blocks l : List Block} {s t : State}
    (hP : Reads P blocks) (h : UnchangedBut l s t) (hl : ∀ b ∈ blocks, b ∉ l) (hs : P s) : P t :=
  hP s t (fun b hb => h b (hl b hb)) hs

/-- A law that does not read the link survives the response. -/
theorem Reads.answering {P : State → Prop} {blocks : List Block} (hP : Reads P blocks)
    (hlink : .link ∉ blocks) {s : State} {act : State → Response × State} (h : P (act s).2) :
    P (State.answering act s) :=
  hP.of_frame (l := [.link]) (by simp [unchangedBut_iff, State.answering])
    (fun b hb hmem => hlink (List.mem_singleton.mp hmem ▸ hb)) h

theorem quiet_subset (i : Instr) : quiet i ⊆ [.link, .pins] := by
  cases i <;> simp [quiet, transactionBytes]

/-- A law that reads neither link nor pins is kept by a command when the command's effect keeps it. -/
theorem exec_keeps {P : State → Prop} {blocks : List Block} (hP : Reads P blocks)
    (hlink : .link ∉ blocks) (hpins : .pins ∉ blocks) {i : Instr}
    (heffect : ∀ u, P u → P (effect i u)) {s t : State} (h : exec i s = .next t) (hs : P s) :
    P t := by
  obtain ⟨u, hu, ht⟩ := exec_cases h
  have hPu : P u := hP.of_frame (hu.mono (quiet_subset i)) (fun b hb hmem => by
    rcases List.mem_cons.mp hmem with rfl | hmem
    · exact hlink hb
    · exact hpins (List.mem_singleton.mp hmem ▸ hb)) hs
  obtain rfl | rfl := ht
  · exact hPu
  · exact heffect u hPu

/-- A law over the named blocks is kept by every step when it is kept by the effects that touch its
blocks and by a millisecond that passes. -/
theorem step_keeps {P : State → Prop} {blocks : List Block} (hP : Reads P blocks)
    (hown : ∀ b ∈ blocks, b ∉ [Block.pending, .link, .pins])
    (heffect : ∀ i : Instr, (∃ b ∈ blocks, b ∈ touched i) → ∀ u, P u → P (effect i u))
    (htime : ∀ u, P u → P (u.elapse 1)) {s t : State} (h : step s = .next t) (hs : P s) : P t := by
  have hexec : ∀ (i : Instr) (u v : State), exec i u = .next v → P u → P v := by
    intro i u v huv hu
    by_cases htouch : ∃ b ∈ blocks, b ∈ touched i
    · exact exec_keeps hP (fun hb => hown _ hb (by simp)) (fun hb => hown _ hb (by simp))
        (heffect i htouch) huv hu
    · exact hP.of_frame (exec_frame huv) (fun b hb hmem => htouch ⟨b, hb, hmem⟩) hu
  simp only [step] at h
  split at h
  · simp only [State.runOn] at h
    split at h
    · exact hexec _ _ _ h hs
    · obtain rfl := Host.Outcome.next.inj h
      split
      · exact hs
      · exact htime s hs
  · refine hexec _ _ _ h (hP.of_frame (l := [.pending]) ?_ ?_ hs)
    · simp [unchangedBut_iff]
    · exact fun b hb hmem => hown b hb (by simp_all)

end Sys2Proof.Machine
end

section
/-! PROOFS. The start history's pacing (R111, R112), kept by every step. -/

namespace Sys2Proof.Machine

/-- A start history kept to four entries, none later than `now`, any two at least 400 ms apart. -/
def Paced (now : Nat) (history : List Nat) : Prop :=
  history.length ≤ 4 ∧ (∀ t ∈ history, t ≤ now) ∧ history.Pairwise fun a b => a + 400 ≤ b

theorem startsPaced_iff (s : State) :
    StartsPaced s ↔
      Paced s.clock.count s.feeder.startHistory ∧ s.clock.count ≤ Config.timeMax := by
  simp [StartsPaced, Paced, and_assoc]

theorem Paced.later {now later : Nat} {history : List Nat} (h : Paced now history)
    (hle : now ≤ later) : Paced later history :=
  ⟨h.1, fun t ht => (h.2.1 t ht).trans hle, h.2.2⟩

theorem eligible_iff (now : Nat) (history : List Nat) :
    eligible now history = true ↔
      (∀ newest, history.getLast? = some newest → 400 ≤ now - newest) ∧
        (history.filter fun t => decide (now - t < 5000)).length < 4 := by
  unfold eligible Config.startSpacingMs Config.startWindowMs
  cases history.getLast? <;> simp

/-- The newest entry decides the spacing of all (R111). -/
theorem Paced.spaced_of_newest {now : Nat} {history : List Nat} (h : Paced now history)
    (hnewest : ∀ newest, history.getLast? = some newest → 400 ≤ now - newest) :
    ∀ t ∈ history, t + 400 ≤ now := by
  obtain ⟨-, hle, hpair⟩ := h
  obtain rfl | ⟨older, newest, rfl⟩ := List.eq_nil_or_concat' history
  · simp
  intro t ht
  have hlast := hnewest newest (by simp)
  have hnow := hle newest (by simp)
  rw [List.pairwise_append] at hpair
  rcases List.mem_append.mp ht with ht | ht
  · have := hpair.2.2 t ht newest (by simp)
    omega
  · obtain rfl := List.mem_singleton.mp ht
    omega

theorem enterStart_paced {now : Nat} {history : List Nat} (h : Paced now history)
    (he : eligible now history = true) : Paced now (enterStart now history) := by
  have hspaced := h.spaced_of_newest ((eligible_iff now history).mp he).1
  obtain ⟨hlen, hle, hpair⟩ := h
  have hkept : (if history.length < 4 then history else history.drop 1).Sublist history := by
    split
    · exact List.Sublist.refl _
    · exact List.drop_sublist 1 history
  refine ⟨?_, fun t ht => ?_, ?_⟩
  · simp only [enterStart, List.length_append, List.length_singleton]
    split
    · omega
    · rw [List.length_drop]
      omega
  · rcases List.mem_append.mp ht with ht | ht
    · exact hle t (hkept.subset ht)
    · exact (List.mem_singleton.mp ht).le
  · refine List.pairwise_append.mpr ⟨hpair.sublist hkept, List.pairwise_singleton _ _, ?_⟩
    intro a ha b hb
    obtain rfl := List.mem_singleton.mp hb
    exact hspaced a (hkept.subset ha)

/-! ## The level pass enters only eligible starts (R109, R112) -/

theorem State.levelStep_history (s : State) (p : Pass) (z : ZoneId) :
    (s.levelStep p z).history = p.history ∨
      eligible s.clock.count p.history = true ∧
        (s.levelStep p z).history = enterStart s.clock.count p.history := by
  simp only [State.levelStep]
  split
  · exact .inl rfl
  split
  · exact .inl rfl
  split
  · split <;> exact .inl rfl
  split
  · exact .inl rfl
  split
  · exact .inl rfl
  split
  · exact .inr ⟨‹_›, rfl⟩
  · exact .inl rfl

theorem State.levelStep_paced (s : State) {p : Pass} (z : ZoneId)
    (h : Paced s.clock.count p.history) : Paced s.clock.count (s.levelStep p z).history := by
  obtain hkept | ⟨he, hentered⟩ := s.levelStep_history p z
  · rwa [hkept]
  · rw [hentered]
    exact enterStart_paced h he

theorem State.levelPass_paced (s : State) {p : Pass} (h : Paced s.clock.count p.history) :
    Paced s.clock.count (s.levelPass p).history :=
  List.foldlRecOn _ _ (motive := fun p : Pass => Paced s.clock.count p.history) h fun _ hp _ _ =>
    List.foldlRecOn _ _ (motive := fun p : Pass => Paced s.clock.count p.history) hp
      fun _ hq z _ => s.levelStep_paced z hq

theorem State.arbitrationPass_paced {s : State}
    (h : Paced s.clock.count s.feeder.startHistory) :
    Paced s.clock.count s.arbitrationPass.history := by
  unfold State.arbitrationPass
  split
  · exact s.levelPass_paced h
  · exact h

/-! ## The commands that touch the clock or the arbiter -/

theorem StartsPaced.of_clock {s t : State} (h : StartsPaced s)
    (hfeeder : t.feeder.startHistory = s.feeder.startHistory) (hclock : t.clock.count = s.clock.count) :
    StartsPaced t := by
  rw [startsPaced_iff] at h ⊢
  rwa [hfeeder, hclock]

theorem StartsPaced.elapse {s : State} (h : StartsPaced s) (n : Nat) : StartsPaced (s.elapse n) := by
  rw [startsPaced_iff] at h ⊢
  obtain ⟨hpaced, hmax⟩ := h
  have hlater : s.clock.count ≤ (s.elapse n).clock.count := by
    simp only [State.elapse, satAdd]
    omega
  exact ⟨hpaced.later hlater, Nat.min_le_left _ _⟩

theorem StartsPaced.reach {s : State} (h : StartsPaced s) (due : Nat) : StartsPaced (s.reach due) :=
  h.elapse _

theorem StartsPaced.arbitrate {s : State} (h : StartsPaced s) : StartsPaced s.arbitrate := by
  rw [startsPaced_iff] at h ⊢
  exact ⟨State.arbitrationPass_paced h.1, h.2⟩

theorem StartsPaced.reads : Reads StartsPaced [.clock, .feeder] := by
  intro s t hsame hs
  have hclock : t.clock = s.clock := hsame .clock (by simp)
  have hfeeder : t.feeder = s.feeder := hsame .feeder (by simp)
  exact hs.of_clock (by rw [hfeeder]) (by rw [hclock])

theorem StartsPaced.of_frame {l : List Block} {s t : State} (h : StartsPaced s)
    (hframe : UnchangedBut l s t) (hclock : .clock ∉ l) (hfeeder : .feeder ∉ l) : StartsPaced t :=
  StartsPaced.reads.of_frame hframe (by simp [hclock, hfeeder]) h

theorem StartsPaced.enterDemand {s : State} (h : StartsPaced s) (m : DemandMessage) :
    StartsPaced (s.enterDemand m) := by
  simp only [State.enterDemand]
  repeat' split
  · exact StartsPaced.arbitrate (h.of_clock rfl rfl)
  · exact h.of_clock rfl rfl
  · exact h

theorem StartsPaced.takeDemand {s : State} (h : StartsPaced s) (z : ZoneId) :
    StartsPaced (s.takeDemand z) := by
  unfold State.takeDemand
  split
  · exact h
  · refine StartsPaced.enterDemand ?_ _
    exact h.of_clock rfl rfl

theorem StartsPaced.takeBoundary {s : State} (h : StartsPaced s) : StartsPaced s.takeBoundary := by
  unfold State.takeBoundary
  generalize hu : s.reach (s.feeder.roundStart + Config.roundMs) = u
  have hreached : StartsPaced u := hu ▸ h.reach _
  have hclosed := hreached.of_frame u.closeMeters_frame (by simp) (by simp)
  have hopened : StartsPaced u.closeMeters.countRound.markBoundary.collecting :=
    hclosed.of_clock rfl rfl
  rw [State.openCollection_eq]
  split
  · exact hopened.arbitrate
  · exact hopened

theorem StartsPaced.setLine {s : State} (h : StartsPaced s) (parts : Nat) (f : LineFields) :
    StartsPaced (s.setLine parts f).2 := by
  have hstored : ∀ p, StartsPaced (s.storeParameters p) := fun p =>
    h.of_clock (by simp [State.storeParameters]) (by simp [State.storeParameters])
  simp only [State.setLine]
  repeat' split
  · exact h
  · exact h
  · exact hstored _

theorem StartsPaced.powerOn (levels : Levels) (pending : List Instr) :
    StartsPaced (State.powerOn levels pending) := by
  simp [StartsPaced, State.powerOn, Arbiter.reset]

theorem StartsPaced.releasePowerOn (s : State) (levels : Levels) :
    StartsPaced (s.releasePowerOn levels) := by
  have hpower := StartsPaced.powerOn levels s.pending
  simp only [State.releasePowerOn]
  split
  · exact hpower.of_frame (State.restartEntry_frame _ _) (by simp) (by simp)
  · exact hpower

theorem StartsPaced.release {s : State} (h : StartsPaced s) (entry : RestartHold)
    (retireFirst : Bool) : StartsPaced (s.release entry retireFirst) := by
  have hreleased : StartsPaced (s.released entry) := by
    unfold State.released
    split
    · exact (h.reach (entry.entryTime + Config.restartHoldMs)).of_clock
        (by simp [State.endHold, State.releaseBlocks]) (by simp [State.endHold, State.releaseBlocks])
    · exact h.of_clock (by simp [State.endHold, State.releaseBlocks])
        (by simp [State.endHold, State.releaseBlocks])
  have hbillets := hreleased.of_frame (State.releaseBillets_frame _ retireFirst) (by simp) (by simp)
  rw [State.release_eq]
  exact (hbillets.of_frame (State.restartWindow_frame _) (by simp) (by simp)).of_clock rfl rfl

theorem StartsPaced.releaseHeld {s : State} (h : StartsPaced s) (retireFirst : Bool) :
    StartsPaced (s.releaseHeld retireFirst) := by
  unfold State.releaseHeld
  split
  · exact h.release _ _
  · exact h

theorem StartsPaced.expireZone {s : State} (h : StartsPaced s) (z : ZoneId) (runsIn : ZoneState)
    {act : State → State} (hact : ∀ u, StartsPaced u → StartsPaced (act u)) :
    StartsPaced (s.expireZone z runsIn act) := by
  unfold State.expireZone
  repeat' split
  · exact h
  · exact hact _ (h.reach _)
  · exact h

/-- An expiry lets time reach its due count, and touches neither clock nor arbiter after that. -/
theorem StartsPaced.expiries {s : State} (h : StartsPaced s) :
    StartsPaced s.expireStroke ∧ StartsPaced s.expireWindow ∧ StartsPaced s.expireTransfer ∧
      StartsPaced s.expireAutoHold := by
  refine ⟨?_, ?_, ?_, ?_⟩
  · unfold State.expireStroke
    split
    · exact h
    rename_i due _
    simp only
    split <;> exact (h.reach due).of_clock (by simp) (by simp)
  · unfold State.expireWindow
    repeat' split
    · exact h
    · exact (h.reach _).of_frame (State.closeWindow_frame _) (by simp) (by simp)
    · exact h
  · unfold State.expireTransfer
    repeat' split
    · exact h
    · exact (h.reach _).of_frame (State.endTransfer_frame _ _) (by simp) (by simp)
    · exact h
  · unfold State.expireAutoHold
    repeat' split
    · exact h
    · exact (h.reach _).of_frame (State.enterHold_frame _ _) (by simp) (by simp)
    · exact h

theorem StartsPaced.effect {i : Instr} (htouch : ∃ b ∈ [Block.clock, .feeder], b ∈ touched i)
    {s : State} (h : StartsPaced s) : StartsPaced (effect i s) := by
  obtain ⟨hstroke, hwindow, htransfer, hhold⟩ := h.expiries
  cases i with
  | powerOnReset edge =>
    cases edge with
    | held => exact h.of_clock rfl rfl
    | released levels => exact StartsPaced.releasePowerOn s levels
  | restartRelease first => exact h.releaseHeld first
  | setLine _ parts f =>
    exact StartsPaced.reads.answering (act := fun s => s.setLine parts f) (by simp)
      (h.setLine parts f)
  | strokeTimerExpiry => exact hstroke
  | transferTimerExpiry => exact htransfer
  | autoHoldExpiry => exact hhold
  | measurementWindowExpiry => exact hwindow
  | roundBoundary => exact h.takeBoundary
  | demandReport z => exact h.takeDemand z
  | startTimeout z =>
    exact h.expireZone z .starting (act := fun u => u.enterFaulted z .startTimeout) fun u hu =>
      hu.of_frame (u.enterFaulted_frame z .startTimeout) (by simp) (by simp)
  | recoveryExpiry z =>
    exact h.expireZone z .stopping (act := fun u => u.modifyZone z ZoneChannel.toOff) fun u hu =>
      hu.of_clock (by simp) (by simp)
  | tuneTimeout z =>
    exact h.expireZone z .tuning (act := fun u => u.enterFaulted z .tuneTimeout) fun u hu =>
      hu.of_frame (u.enterFaulted_frame z .tuneTimeout) (by simp) (by simp)
  | _ => simp [touched] at htouch

/-- Settles O58: the level pass enters only eligible starts (`State.levelStep_history`), and time only
rises. -/
theorem startPacingKept : Obligations.StartPacingKept := by
  unfold Obligations.StartPacingKept
  intro s t h hs
  exact step_keeps StartsPaced.reads (by simp) (fun _ hi _ hu => StartsPaced.effect hi hu)
    (fun _ hu => hu.elapse 1) h hs

end Sys2Proof.Machine
end

section
/-! PROOFS. What the commands do to a zone channel, the meters' bounds (R93, R95) and the zone channels'
laws (R83, R78, R118), kept by every step. -/

namespace Sys2Proof.Machine

/-! ## The moves of a zone channel -/

/-- What one event can do to a zone channel, beside a SET_ZONE and power-on reset: the entries into the
zone states from the states that allow them, and the updates that leave the state alone. -/
inductive ZoneMove : ZoneChannel → ZoneChannel → Prop
  | time (origin now later : Nat) (c : ZoneChannel) : ZoneMove c (c.accrue origin now later)
  | stopping (now : Nat) (c : ZoneChannel) : ZoneMove c (c.toStopping now)
  | stopAll (now : Nat) (c : ZoneChannel) : ZoneMove c (c.stopAll now)
  | faulted (cause : FaultCause) (c : ZoneChannel) : ZoneMove c (c.toFaulted cause)
  | recovered (c : ZoneChannel) : c.state = .stopping → ZoneMove c c.toOff
  | tuned (efficiency : Nat) (c : ZoneChannel) : c.state = .tuning → 500 ≤ efficiency →
      efficiency ≤ 980 → ZoneMove c { c.toOff with eff := efficiency, tuningAge := 0 }
  | start (kW due starts : Nat) (c : ZoneChannel) : c.state = .off →
      ZoneMove c { c with
        grantInForce := kW, meteredGrant := kW, state := .starting, timer := some due
        starts := starts }
  | turnOn (now : Nat) (c : ZoneChannel) : c.state = .starting →
      ZoneMove c { c with
        state := .on, timer := none, onSince := some now, meteredBand := c.band }
  | tune (due : Nat) (c : ZoneChannel) : c.state = .off →
      ZoneMove c { c with state := .tuning, timer := some due }
  | wait (kW : Nat) (c : ZoneChannel) : c.state.running = true →
      ZoneMove c { c with nextGrant := some kW }
  | band (b : Band) (c : ZoneChannel) : ZoneMove c (c.requestBand b)
  | boundary (c : ZoneChannel) : ZoneMove c c.boundary
  | resume (heldFor : Nat) (c : ZoneChannel) : ZoneMove c (c.resumeTimer heldFor)
  | note (report : Option ReportKind) (code : Option Nat) (discarded stray idle : Nat)
      (c : ZoneChannel) :
      ZoneMove c { c with
        lastReport := report, inverterCode := code, grantsDiscarded := discarded
        strayReports := stray, idleEnergy := idle }

/-- Every channel of `t` comes from its channel of `s` by moves. -/
def ZonesMoved (s t : State) : Prop :=
  ∀ z : ZoneId, Relation.ReflTransGen ZoneMove s.zones[z] t.zones[z]

theorem ZonesMoved.of_same {s t : State} (h : t.zones = s.zones) : ZonesMoved s t := by
  intro z
  rw [h]

theorem ZonesMoved.trans {s t u : State} (h : ZonesMoved s t) (h' : ZonesMoved t u) :
    ZonesMoved s u :=
  fun z => (h z).trans (h' z)

theorem ZonesMoved.of_frame {l : List Block} {s t : State} (h : UnchangedBut l s t)
    (hl : .zones ∉ l) : ZonesMoved s t :=
  .of_same (h .zones hl)

theorem zones_set_same (zones : Vector ZoneChannel 12) (z : ZoneId) (c : ZoneChannel) :
    (zones.set z c)[z] = c := by
  simp

theorem zones_set_other (zones : Vector ZoneChannel 12) {y z : ZoneId} (h : y ≠ z)
    (c : ZoneChannel) : (zones.set z c)[y] = zones[y] := by
  have hv : z.val ≠ y.val := fun e => h (Fin.ext e.symm)
  simp [hv]

theorem ZonesMoved.of_set {s t : State} (z : ZoneId) {c : ZoneChannel}
    (ht : t.zones = s.zones.set z c) (h : ZoneMove s.zones[z] c) : ZonesMoved s t := by
  intro y
  rw [ht]
  by_cases hy : y = z
  · subst hy
    rw [zones_set_same]
    exact .single h
  · rw [zones_set_other _ hy]

theorem ZonesMoved.of_all {s t : State} (f : ZoneChannel → ZoneChannel)
    (ht : t.zones = Vector.ofFn fun z : ZoneId => f s.zones[z]) (h : ∀ c, ZoneMove c (f c)) :
    ZonesMoved s t := by
  intro z
  have hz : t.zones[z] = f s.zones[z] := by simp [ht]
  rw [hz]
  exact .single (h _)

/-- A property of channels that every move keeps is kept with them. -/
theorem ZonesMoved.keeps {s t : State} (h : ZonesMoved s t) {Q : ZoneChannel → Prop}
    (hQ : ∀ c d, ZoneMove c d → Q c → Q d) (z : ZoneId) (hz : Q s.zones[z]) : Q t.zones[z] := by
  have hmoved := h z
  generalize t.zones[z] = d at hmoved
  induction hmoved with
  | refl => exact hz
  | tail _ hmove ih => exact hQ _ _ hmove ih

/-! ## The operations of the zone channels, as moves -/

section
variable (s : State)

theorem State.elapse_moves (n : Nat) : ZonesMoved s (s.elapse n) :=
  .of_all _ rfl fun c => .time _ _ _ c

theorem State.reach_moves (due : Nat) : ZonesMoved s (s.reach due) := s.elapse_moves _

theorem State.enterTripped_moves (cause : TripCause) : ZonesMoved s (s.enterTripped cause) :=
  .of_all _ rfl fun c => .stopAll s.clock.count c

theorem State.enterStopping_moves (z : ZoneId) : ZonesMoved s (s.enterStopping z) :=
  .of_set z rfl (.stopping _ _)

theorem State.enterFaulted_moves (z : ZoneId) (cause : FaultCause) :
    ZonesMoved s (s.enterFaulted z cause) := by
  refine (ZonesMoved.of_set (t := s.modifyZone z (ZoneChannel.toFaulted cause)) z rfl
    (.faulted cause _)).trans (.of_same ?_)
  simp only [State.enterFaulted]
  split <;> simp

theorem State.noteReport_moves (z : ZoneId) (k : ReportKind) : ZonesMoved s (s.noteReport z k) :=
  .of_set z rfl (.note _ _ _ _ _ _)

theorem State.strayAt_moves (z : ZoneId) : ZonesMoved s (s.strayAt z) :=
  .of_set z rfl (.note _ _ _ _ _ _)

theorem State.takeRunning_moves (z : ZoneId) : ZonesMoved s (s.takeRunning z) := by
  unfold State.takeRunning
  split
  · exact (s.noteReport_moves z .running).trans (.of_set z rfl (.turnOn _ _ ‹_›))
  · exact (s.noteReport_moves z .running).trans (State.strayAt_moves _ z)

theorem State.judgeTuned_moves (z : ZoneId) (efficiency : Nat) (h : s.zones[z].state = .tuning) :
    ZonesMoved s (s.judgeTuned z efficiency) := by
  unfold State.judgeTuned
  split
  · rename_i hrange
    simp only [Bool.and_eq_true, decide_eq_true_eq] at hrange
    exact .of_set z rfl (.tuned efficiency _ h hrange.1 hrange.2)
  · exact s.enterFaulted_moves z .tuneRange

theorem State.takeTuned_moves (z : ZoneId) (efficiency : Nat) :
    ZonesMoved s (s.takeTuned z efficiency) := by
  unfold State.takeTuned
  split
  · exact (s.noteReport_moves z .tuned).trans (State.judgeTuned_moves _ z efficiency ‹_›)
  · exact (s.noteReport_moves z .tuned).trans (State.strayAt_moves _ z)

theorem State.takeFault_moves (z : ZoneId) (code : Nat) : ZonesMoved s (s.takeFault z code) :=
  (s.noteReport_moves z .fault).trans
    (.trans (.of_set z rfl (.note _ _ _ _ _ _)) (State.enterFaulted_moves _ z .inverter))

theorem State.actOnGrant_moves (z : ZoneId) (kW : Nat) : ZonesMoved s (s.actOnGrant z kW) := by
  have hwait : s.zones[z].state.running = true →
      ZonesMoved s (s.modifyZone z fun c => { c with nextGrant := some kW }) :=
    fun h => .of_set z rfl (.wait kW _ h)
  unfold State.actOnGrant
  split <;> rename_i hstate
  · split
    · exact .of_same rfl
    · exact .of_set z rfl (.start kW _ _ _ hstate)
  · split
    · exact s.enterStopping_moves z
    · exact hwait (by rw [hstate]; rfl)
  · split
    · exact s.enterStopping_moves z
    · exact hwait (by rw [hstate]; rfl)
  all_goals exact .of_set z rfl (.note _ _ _ _ _ _)

theorem State.takeGrant_moves (z : ZoneId) : ZonesMoved s (s.takeGrant z) := by
  unfold State.takeGrant
  split
  · exact .of_same rfl
  · refine .trans (.of_same ?_) (State.actOnGrant_moves _ z _)
    rfl

theorem State.takeOrder_moves (z : ZoneId) : ZonesMoved s (s.takeOrder z) := by
  unfold State.takeOrder State.actOnOrder
  split
  · exact .of_same rfl
  split
  · rename_i hoff
    simp only [Bool.and_eq_true, decide_eq_true_eq] at hoff
    exact .of_set z rfl (.tune _ _ hoff.2)
  · exact .of_same rfl

theorem State.takeCredit_moves (z : ZoneId) : ZonesMoved s (s.takeCredit z) := by
  unfold State.takeCredit
  split
  · exact .of_same rfl
  · exact .of_set z rfl (.note _ _ _ _ _ _)

theorem State.setZoneBand_moves (zone band : Nat) : ZonesMoved s (s.setZoneBand zone band).2 := by
  unfold State.setZoneBand
  split
  · exact .of_set _ rfl (.band _ _)
  all_goals exact .of_same rfl

theorem State.clearZoneFault_moves (zone : Nat) : ZonesMoved s (s.clearZoneFault zone).2 := by
  unfold State.clearZoneFault
  repeat' split
  case isFalse => exact s.enterStopping_moves _
  all_goals exact .of_same rfl

theorem State.takeBoundary_moves : ZonesMoved s s.takeBoundary := by
  unfold State.takeBoundary
  generalize hu : s.reach (s.feeder.roundStart + Config.roundMs) = u
  have hreach : ZonesMoved s u := hu ▸ s.reach_moves _
  have hclose : ZonesMoved u u.closeMeters :=
    .of_all ZoneChannel.boundary (by simp [State.closeMeters]) ZoneMove.boundary
  have hmark : ZonesMoved u.closeMeters u.closeMeters.countRound.markBoundary := .of_same rfl
  exact hreach.trans (hclose.trans (hmark.trans
    (.of_frame (State.openCollection_frame _) (by simp))))

theorem State.released_moves (h : RestartHold) : ZonesMoved s (s.released h) := by
  have hend : ∀ u : State, ZonesMoved u (u.endHold h).releaseBlocks := fun u =>
    .of_all (ZoneChannel.resumeTimer (u.clock.count - h.entryTime))
      (by simp [State.endHold, State.releaseBlocks]) (ZoneMove.resume _)
  unfold State.released
  split
  · exact (s.reach_moves _).trans (hend _)
  · exact hend s

theorem State.releaseHeld_moves (retireFirst : Bool) : ZonesMoved s (s.releaseHeld retireFirst) := by
  unfold State.releaseHeld
  split
  · rename_i h _
    rw [State.release_eq]
    exact (s.released_moves h).trans (.trans
      (.of_frame (State.releaseBillets_frame _ retireFirst) (by simp))
      (.trans (.of_frame (State.restartWindow_frame _) (by simp)) (.of_same rfl)))
  · exact .of_same rfl

theorem State.reach_zone_state (due : Nat) (z : ZoneId) :
    (s.reach due).zones[z].state = s.zones[z].state := by
  rw [State.reach, State.elapse_zone, ZoneChannel.accrue_state]

theorem State.expireZone_moves (z : ZoneId) (runsIn : ZoneState) {act : State → State}
    (h : ∀ u : State, u.zones[z].state = runsIn → ZonesMoved u (act u)) :
    ZonesMoved s (s.expireZone z runsIn act) := by
  unfold State.expireZone
  repeat' split
  · exact .of_same rfl
  · rename_i due _ hstate
    exact (s.reach_moves due).trans (h _ ((s.reach_zone_state due z).trans hstate))
  · exact .of_same rfl

/-- An expiry of the line, the row or the exit lets time reach its due count, and that is all the zones
see of it. -/
theorem State.expiries_move :
    ZonesMoved s s.expireStroke ∧ ZonesMoved s s.expireWindow ∧ ZonesMoved s s.expireTransfer ∧
      ZonesMoved s s.expireAutoHold := by
  refine ⟨?_, ?_, ?_, ?_⟩
  · unfold State.expireStroke
    split
    · exact .of_same rfl
    rename_i due _
    simp only
    split <;> exact (s.reach_moves due).trans (.of_same (by simp))
  · unfold State.expireWindow
    repeat' split
    · exact .of_same rfl
    · exact (s.reach_moves _).trans (.of_frame (State.closeWindow_frame _) (by simp))
    · exact .of_same rfl
  · unfold State.expireTransfer
    repeat' split
    · exact .of_same rfl
    · exact (s.reach_moves _).trans (.of_frame (State.endTransfer_frame _ _) (by simp))
    · exact .of_same rfl
  · unfold State.expireAutoHold
    repeat' split
    · exact .of_same rfl
    · exact (s.reach_moves _).trans (.of_frame (State.enterHold_frame _ _) (by simp))
    · exact .of_same rfl

theorem State.restartEntry_moves (cause : RestartCause) : ZonesMoved s (s.restartEntry cause) :=
  .trans (s.enterTripped_moves .restart) (.of_same rfl)

theorem State.feederFaultChanged_moves (active : Bool) :
    ZonesMoved s (s.feederFaultChanged active) := by
  simp only [State.feederFaultChanged]
  repeat' split
  · exact .trans (.of_same rfl) (State.enterTripped_moves _ .feeder)
  all_goals exact .of_same rfl

end

theorem ZonesMoved.answering {s : State} {act : State → Response × State}
    (h : ZonesMoved s (act s).2) : ZonesMoved s (State.answering act s) :=
  h.trans (.of_same rfl)

/-- Every command but SET_ZONE and the release of power-on reset moves the channels. -/
theorem effect_moves (i : Instr) (s : State) (hset : ∀ c z f, i ≠ .setZone c z f)
    (hreset : ∀ levels, i ≠ .powerOnReset (.released levels)) : ZonesMoved s (effect i s) := by
  by_cases htouch : .zones ∈ touched i
  swap
  · exact .of_frame (effect_frame i s) htouch
  obtain ⟨hstroke, hwindow, htransfer, hhold⟩ := s.expiries_move
  cases i with
  | powerOnReset edge =>
    cases edge with
    | held => exact .of_same rfl
    | released levels => exact absurd rfl (hreset levels)
  | ctrlResetAsserted => exact s.restartEntry_moves _
  | restart _ => exact s.restartEntry_moves _
  | restartRelease first => exact s.releaseHeld_moves first
  | setZone c z f => exact absurd rfl (hset c z f)
  | setZoneBand _ zone band => exact .answering (s.setZoneBand_moves zone band)
  | clearZoneFault _ zone => exact .answering (s.clearZoneFault_moves zone)
  | modeTrip _ =>
    refine .answering ?_
    unfold State.modeAction
    split
    · exact s.enterTripped_moves .request
    · exact .of_same rfl
  | feederFaultChange active => exact s.feederFaultChanged_moves active
  | strokeTimerExpiry => exact hstroke
  | measurementWindowExpiry => exact hwindow
  | transferTimerExpiry => exact htransfer
  | autoHoldExpiry => exact hhold
  | roundBoundary => exact s.takeBoundary_moves
  | idleCredit z => exact s.takeCredit_moves z
  | grant z => exact s.takeGrant_moves z
  | tuneOrder z => exact s.takeOrder_moves z
  | inverterRunning z => exact s.takeRunning_moves z
  | inverterTuned z efficiency => exact s.takeTuned_moves z efficiency
  | inverterFault z code => exact s.takeFault_moves z code
  | inverterHealthy z => exact s.noteReport_moves z .healthy
  | strayReport z => exact s.strayAt_moves z
  | startTimeout z =>
    exact s.expireZone_moves z .starting (act := fun u => u.enterFaulted z .startTimeout)
      fun u _ => u.enterFaulted_moves z _
  | recoveryExpiry z =>
    exact s.expireZone_moves z .stopping (act := fun u => u.modifyZone z ZoneChannel.toOff)
      fun u hu => .of_set z rfl (.recovered _ hu)
  | tuneTimeout z =>
    exact s.expireZone_moves z .tuning (act := fun u => u.enterFaulted z .tuneTimeout)
      fun u _ => u.enterFaulted_moves z _
  | _ => simp [touched] at htouch

/-! ## What the moves keep -/

theorem ZoneMove.map_eq {c d : ZoneChannel} (h : ZoneMove c d) : d.map = c.map := by
  cases h with
  | time => rw [ZoneChannel.accrue_eq]
  | stopAll now => unfold ZoneChannel.stopAll; split <;> rfl
  | band b => unfold ZoneChannel.requestBand; split <;> [rfl; split <;> rfl]
  | boundary =>
    unfold ZoneChannel.boundary ZoneChannel.adoptGrant
    split <;> [rfl; split <;> rfl]
  | _ => rfl

/-- The meter within its 20 quanta, the efficiency in 500 to 980 (R93, R95). -/
def ZoneChannel.Metered (c : ZoneChannel) : Prop := c.qOn ≤ 20 ∧ 500 ≤ c.eff ∧ c.eff ≤ 980

theorem ZoneMove.keeps_metered {c d : ZoneChannel} (h : ZoneMove c d) (hc : c.Metered) :
    d.Metered := by
  obtain ⟨hq, heff⟩ := hc
  cases h with
  | time o a b =>
    unfold ZoneChannel.accrue
    split
    · exact ⟨Nat.min_le_left _ _, heff⟩
    · exact ⟨hq, heff⟩
  | stopAll now =>
    unfold ZoneChannel.stopAll
    split <;> exact ⟨hq, heff⟩
  | tuned efficiency _ _ hlow hhigh => exact ⟨hq, hlow, hhigh⟩
  | band b =>
    unfold ZoneChannel.requestBand
    repeat' split
    all_goals exact ⟨hq, heff⟩
  | boundary =>
    have hadopt : c.adoptGrant.eff = c.eff := by
      unfold ZoneChannel.adoptGrant
      repeat' split
      all_goals rfl
    exact ⟨Nat.zero_le _, by simpa [ZoneChannel.boundary, hadopt] using heff⟩
  | _ => exact ⟨hq, heff⟩

theorem ZoneMove.keeps_fits {c d : ZoneChannel} (h : ZoneMove c d) (hc : c.Fits) : d.Fits := by
  obtain ⟨hon, htimer, hgrant, hband⟩ := hc
  cases h with
  | time o a b =>
    rw [ZoneChannel.accrue_eq]
    exact ⟨hon, htimer, hgrant, hband⟩
  | stopping now => simp [ZoneChannel.Fits, ZoneChannel.toStopping, ZoneState.timed]
  | stopAll now =>
    unfold ZoneChannel.stopAll
    split <;> rename_i hstop
    · simp [ZoneChannel.Fits, ZoneChannel.toStopping, ZoneState.timed]
    · have hoff : c.state ≠ .on := fun h => hstop (by rw [h]; rfl)
      exact ⟨by simp [hoff], htimer, fun _ => ⟨rfl, rfl⟩, hband⟩
  | faulted cause => simp [ZoneChannel.Fits, ZoneChannel.toFaulted, ZoneState.timed]
  | recovered _ hstate | tuned efficiency _ hstate =>
    have hsince : c.onSince = none := by simpa [hstate] using hon
    have hnone := hgrant (by rw [hstate]; rfl)
    simp [ZoneChannel.Fits, ZoneChannel.toOff, ZoneState.timed, hsince, hnone]
  | start kW due starts _ hstate =>
    have hsince : c.onSince = none := by simpa [hstate] using hon
    simp [ZoneChannel.Fits, ZoneState.timed, ZoneState.running, hsince]
  | turnOn now _ hstate => simp [ZoneChannel.Fits, ZoneState.timed, ZoneState.running]
  | tune due _ hstate =>
    have hsince : c.onSince = none := by simpa [hstate] using hon
    have hnone := hgrant (by rw [hstate]; rfl)
    simp [ZoneChannel.Fits, ZoneState.timed, hsince, hnone]
  | wait kW _ hrunning =>
    exact ⟨hon, htimer, fun h => by simp [hrunning] at h, hband⟩
  | band b =>
    unfold ZoneChannel.requestBand
    repeat' split
    · exact ⟨hon, htimer, hgrant, fun _ => rfl⟩
    · exact ⟨hon, htimer, hgrant, fun _ => rfl⟩
    · exact ⟨hon, htimer, hgrant, fun h => absurd h ‹_›⟩
  | boundary =>
    have hadopt : c.adoptGrant.Fits := by
      unfold ZoneChannel.adoptGrant
      repeat' split
      · exact ⟨hon, htimer, hgrant, hband⟩
      · exact ⟨hon, htimer, fun h => by simp_all, hband⟩
      · exact ⟨hon, htimer, hgrant, hband⟩
    exact hadopt
  | resume heldFor => exact ⟨hon, by simpa [ZoneChannel.resumeTimer] using htimer, hgrant, hband⟩
  | note => exact ⟨hon, htimer, hgrant, hband⟩

theorem ZonesMoved.map_eq {s t : State} (h : ZonesMoved s t) (z : ZoneId) :
    t.zones[z].map = s.zones[z].map :=
  h.keeps (Q := fun c => c.map = s.zones[z].map) (fun _ _ hmove hc => hmove.map_eq.trans hc) z rfl

end Sys2Proof.Machine
end

section
/-! PROOFS. The zone map, its guard and the zone channels' laws (R83, R78, R60, R118). -/

namespace Sys2Proof.Machine

/-! ## Sums and lists over the twelve zones -/

theorem zones_toList (zones : Vector ZoneChannel 12) :
    zones.toList = (List.finRange 12).map fun z : ZoneId => zones[z] := by
  apply List.ext_getElem
  · simp
  · intro k hk hk'
    simp

/-- The sum of the enabled minimums, zone by zone (R117). -/
theorem minimumSum_eq (zones : Vector ZoneChannel 12) :
    minimumSum zones = (((List.finRange 12).filter fun z => zones[z].map.enabled).map fun z =>
      zones[z].map.minKW).sum := by
  simp only [minimumSum, zones_toList, List.filter_map, List.map_map]
  rfl

theorem minimumSum_congr {zones zones' : Vector ZoneChannel 12}
    (h : ∀ z : ZoneId, zones'[z].map = zones[z].map) : minimumSum zones' = minimumSum zones := by
  simp only [minimumSum_eq, h]

/-! ## What keeps the map's laws -/

/-- The map's laws read the maps, the row's length and the feeder limit. -/
theorem MapKept.of_maps {s t : State} (h : MapKept s)
    (hmap : ∀ z : ZoneId, t.zones[z].map = s.zones[z].map) (hrow : t.row.length = s.row.length)
    (hlimit : t.feeder.feederLimit = s.feeder.feederLimit) : MapKept t := by
  simpa only [MapKept, MapsLegal, GuardKept, minimumSum_congr hmap, hmap, hrow, hlimit] using h

theorem ZoneChannel.reset_fits : ZoneChannel.reset.Fits := by
  simp [ZoneChannel.Fits, ZoneChannel.reset, ZoneState.timed]

theorem ZoneChannel.reset_inRange : ZoneChannel.reset.map.InRange := by
  simp [ZoneMap.InRange, ZoneChannel.reset]

theorem powerOn_zone (levels : Levels) (pending : List Instr) (z : ZoneId) :
    (State.powerOn levels pending).zones[z] = ZoneChannel.reset := by
  simp [State.powerOn]

theorem powerOn_zonesFit (levels : Levels) (pending : List Instr) :
    ZonesFit (State.powerOn levels pending) := by
  intro z
  rw [powerOn_zone]
  exact ZoneChannel.reset_fits

theorem powerOn_mapKept (levels : Levels) (pending : List Instr) :
    MapKept (State.powerOn levels pending) := by
  refine ⟨⟨fun z => ?_, fun z h => ?_, fun y z _ h _ => ?_⟩, .inl rfl⟩
  · rw [powerOn_zone]
    exact ZoneChannel.reset_inRange
  · rw [powerOn_zone] at h
    cases h
  · rw [powerOn_zone] at h
    cases h

/-! ## The commands that write the row's length or the feeder limit -/

/-- The stroke state and timer at a stroke end (R64). -/
def State.strokeClosed (s : State) : State :=
  { s with row := { s.row with stroke := .idle, strokeTimer := none } }

/-- The cadence measured at a stroke end (R73). -/
def State.cadenceMeasured (s : State) : State := { s with row := s.row.measureCadence }

/-- A stroke end, stage by stage (R64, R67). -/
theorem State.endStroke_eq (s : State) :
    s.endStroke =
      if s.pushesOff && s.line.mode.pushing then
        s.strokeClosed.shift.cadenceMeasured.testQueue.drainTest.enterHold .pushOff
      else s.strokeClosed.shift.cadenceMeasured.testQueue.drainTest := rfl

theorem RowTracker.measureCadence_length (row : RowTracker) :
    row.measureCadence.length = row.length := by
  unfold RowTracker.measureCadence
  split <;> rfl

theorem State.advanceRow_length (s : State) : s.advanceRow.row.length = s.row.length := by
  simp only [State.advanceRow]

theorem State.shift_length (s : State) : s.shift.row.length = s.row.length := by
  unfold State.shift
  rw [State.advanceRow_length]
  cases s.row.ejected with
  | none => rw [Option.map_none, Option.getD_none]
  | some tag =>
    have hoff : (s.handOff tag).row = s.row := State.handOff_frame s tag .row (by simp)
    rw [Option.map_some, Option.getD_some, hoff]

theorem State.endStroke_length (s : State) : s.endStroke.row.length = s.row.length := by
  have hdone : s.strokeClosed.shift.cadenceMeasured.row.length = s.row.length :=
    (RowTracker.measureCadence_length _).trans s.strokeClosed.shift_length
  have hrow : ∀ u : State, u.testQueue.drainTest.row = u.row := fun u => by
    rw [State.drainTest_row, State.testQueue, State.raiseIf_row]
  rw [State.endStroke_eq]
  generalize (s.pushesOff && s.line.mode.pushing) = pushed
  cases pushed with
  | true => rw [if_pos rfl, State.enterHold_row, hrow, hdone]
  | false => rw [if_neg Bool.false_ne_true, hrow, hdone]

theorem effect_rowLength (i : Instr) (s : State) (hset : ∀ c v, i ≠ .setRowLength c v)
    (hreset : ∀ levels, i ≠ .powerOnReset (.released levels)) :
    (effect i s).row.length = s.row.length := by
  by_cases htouch : .row ∈ touched i
  swap
  · rw [effect_frame i s .row htouch]
  cases i with
  | powerOnReset edge =>
    cases edge with
    | held => rfl
    | released levels => exact absurd rfl (hreset levels)
  | setRowLength c v => exact absurd rfl (hset c v)
  | ctrlResetAsserted => simp [effect, State.restartEntry, RowTracker.restartEntry]
  | restart _ => simp [effect, State.restartEntry, RowTracker.restartEntry]
  | modeStart _ unnamed =>
    cases unnamed with
    | some b => rfl
    | none =>
      simp only [effect, State.answering, State.modeStart, State.start, State.respond_row]
      repeat' split
      all_goals simp [State.modeResponse, State.enterRun, State.clearCadence]
  | modeResume _ =>
    simp only [effect, State.answering, State.modeAction, State.respond_row]
    split <;> simp [State.modeResponse, State.enterRun, State.clearCadence]
  | strokeBegin e =>
    simp only [effect, State.beginStroke]
    repeat' split
    all_goals rfl
  | strokeEnd e =>
    simp only [effect, State.homeEdge]
    repeat' split
    · exact s.endStroke_length
    all_goals rfl
  | strokeTimerExpiry =>
    simp only [effect, State.expireStroke]
    repeat' split
    all_goals simp
  | roundBoundary =>
    have hopen : ∀ u : State, u.openCollection.row = u.row := fun u =>
      u.openCollection_frame .row (by simp)
    simp [effect, State.takeBoundary, hopen, State.markBoundary, State.countRound, State.closeMeters]
  | _ => simp [touched] at htouch

theorem State.released_feederLimit (s : State) (h : RestartHold) :
    (s.released h).feeder.feederLimit = s.feeder.feederLimit := by
  unfold State.released
  split <;> simp [State.endHold, State.releaseBlocks]

theorem effect_feederLimit (i : Instr) (s : State) (hset : ∀ c p f, i ≠ .setLine c p f)
    (hreset : ∀ levels, i ≠ .powerOnReset (.released levels)) :
    (effect i s).feeder.feederLimit = s.feeder.feederLimit := by
  have hdemand : ∀ (u : State) m, (u.enterDemand m).feeder.feederLimit = u.feeder.feederLimit := by
    intro u m
    simp only [State.enterDemand]
    repeat' split
    all_goals rfl
  by_cases htouch : .feeder ∈ touched i
  swap
  · rw [effect_frame i s .feeder htouch]
  cases i with
  | powerOnReset edge =>
    cases edge with
    | held => rfl
    | released levels => exact absurd rfl (hreset levels)
  | setLine c p f => exact absurd rfl (hset c p f)
  | restartRelease first =>
    simp only [effect, State.releaseHeld]
    split
    · rename_i h _
      have hbillets : ((s.released h).releaseBillets first).1.feeder = (s.released h).feeder :=
        State.releaseBillets_frame (s.released h) first .feeder (by simp)
      have hwindow : ∀ u : State, u.restartWindow.feeder = u.feeder := fun u =>
        u.restartWindow_frame .feeder (by simp)
      rw [State.release_eq]
      exact (congrArg Arbiter.feederLimit ((hwindow _).trans hbillets)).trans
        (s.released_feederLimit h)
    · rfl
  | roundBoundary =>
    have hopen : ∀ u : State, u.openCollection.feeder.feederLimit = u.feeder.feederLimit := by
      intro u
      rw [State.openCollection_eq]
      split <;> rfl
    simp [effect, State.takeBoundary, hopen, State.markBoundary, State.countRound, State.closeMeters]
  | demandReport z =>
    simp only [effect, State.takeDemand]
    split
    · rfl
    · rw [hdemand]
  | _ => simp [touched] at htouch

/-! ## SET_ZONE (R79, R80) -/

/-- A SET_ZONE leaves the state as it found it, or writes an entry that passed every check. -/
theorem State.setZoneMap_cases (s : State) (zone : Nat) (f : ZoneFields) :
    (s.setZoneMap zone f).2 = s ∨
      ∃ (z : ZoneId) (level : Level) (enabled : Bool) (band : Band),
        (s.zones[z].state = .off ∨ s.zones[z].state = .faulted) ∧
          s.entryAllowed z (zoneEntry f level enabled) = true ∧
          (s.setZoneMap zone f).2 = s.writeZone z (zoneEntry f level enabled) band := by
  simp only [State.setZoneMap]
  split
  · exact .inl rfl
  split
  · exact .inl rfl
  split
  · exact .inl rfl
  split
  · exact .inl rfl
  rename_i hstate
  split
  · exact .inr ⟨_, _, _, _, by tauto, ‹_›, rfl⟩
  · exact .inl rfl

theorem State.writeZone_zones (s : State) (z : ZoneId) (m : ZoneMap) (band : Band) :
    (s.writeZone z m band).zones =
      s.zones.set z { s.zones[z] with map := m, band := band, pendingBand := none } := by
  have hpoint : ∀ u : State, u.placePointer.zones = u.zones := fun u =>
    u.placePointer_frame .zones (by simp)
  simp only [State.writeZone, hpoint, State.raiseIf_zones]
  rfl

theorem ZoneMap.overlaps_eq_false_iff (a b : ZoneMap) :
    a.overlaps b = false ↔ a.lastPos < b.firstPos ∨ b.lastPos < a.firstPos := by
  rw [← Bool.not_eq_true]
  simp only [ZoneMap.overlaps, Bool.and_eq_true, decide_eq_true_eq]
  omega

/-- Checks 5 to 9 of R79, as numbers. -/
theorem State.entryAllowed_iff (s : State) (z : ZoneId) (m : ZoneMap) :
    s.entryAllowed z m = true ↔
      (m.firstPos ≤ m.lastPos ∧ m.lastPos ≤ 39) ∧ (5 ≤ m.minKW ∧ m.minKW ≤ m.maxKW) ∧
        (m.enabled = true → m.lastPos < s.row.length) ∧
        (m.enabled = true → ∀ y : ZoneId, y ≠ z → s.zones[y].map.enabled = true →
          m.lastPos < s.zones[y].map.firstPos ∨ s.zones[y].map.lastPos < m.firstPos) ∧
        (s.feeder.feederLimit = 0 ∨
          minimumSum (s.zones.set z { s.zones[z] with map := m }) ≤ s.feeder.feederLimit) := by
  have hother : ∀ y : ZoneId,
      ((y = z ∨ s.zones[y].map.enabled = false) ∨ m.overlaps s.zones[y].map = false) ↔
        (y ≠ z → s.zones[y].map.enabled = true →
          m.lastPos < s.zones[y].map.firstPos ∨ s.zones[y].map.lastPos < m.firstPos) := by
    intro y
    rw [ZoneMap.overlaps_eq_false_iff, ← Bool.not_eq_true]
    tauto
  simp only [State.entryAllowed, Bool.and_eq_true, Bool.or_eq_true, Bool.not_eq_true',
    decide_eq_true_eq, List.all_eq_true, List.mem_finRange, true_implies, hother, and_assoc]
  cases m.enabled <;> simp

theorem zones_map_set (zones : Vector ZoneChannel 12) (z y : ZoneId) (c : ZoneChannel) :
    (zones.set z c)[y].map = if y = z then c.map else zones[y].map := by
  split
  · rename_i h
    rw [h, zones_set_same]
  · rw [zones_set_other _ ‹_›]

theorem State.writeZone_keeps {s : State} {z : ZoneId} {m : ZoneMap} (band : Band)
    (hstate : s.zones[z].state = .off ∨ s.zones[z].state = .faulted)
    (hallowed : s.entryAllowed z m = true) (hmax : 10 ≤ m.maxKW ∧ m.maxKW ≤ 1500)
    (h : ZonesFit s ∧ MapKept s) :
    ZonesFit (s.writeZone z m band) ∧ MapKept (s.writeZone z m band) := by
  obtain ⟨hfit, ⟨hrange, hrow, hdisjoint⟩, -⟩ := h
  obtain ⟨⟨hfirst, hlast⟩, ⟨hmin, hminmax⟩, hrow', hdisjoint', hguard⟩ :=
    (s.entryAllowed_iff z m).mp hallowed
  have hzones := s.writeZone_zones z m band
  have hlength : (s.writeZone z m band).row = s.row := State.writeZone_frame s z m band .row (by simp)
  have hfeeder : (s.writeZone z m band).feeder = s.feeder :=
    State.writeZone_frame s z m band .feeder (by simp)
  have hmap : ∀ y : ZoneId, (s.writeZone z m band).zones[y].map =
      if y = z then m else s.zones[y].map := by
    intro y
    rw [hzones, zones_map_set]
  refine ⟨fun y => ?_, ⟨fun y => ?_, fun y => ?_, fun y y' hne => ?_⟩, ?_⟩
  · rw [hzones]
    by_cases hy : y = z
    · subst hy
      rw [zones_set_same]
      obtain ⟨hon, htimer, hgrant, -⟩ := hfit y
      exact ⟨hon, htimer, hgrant, fun _ => rfl⟩
    · rw [zones_set_other _ hy]
      exact hfit y
  · rw [hmap]
    split
    · exact ⟨hfirst, hlast, hmin, hminmax, hmax⟩
    · exact hrange y
  · rw [hmap, hlength]
    split
    · exact hrow'
    · exact hrow y
  · rw [hmap, hmap]
    split <;> split
    · exact absurd (‹y = z›.trans ‹y' = z›.symm) hne
    · exact fun hm he => hdisjoint' hm y' ‹_› he
    · exact fun he hm => (hdisjoint' hm y ‹_› he).symm
    · exact hdisjoint y y' hne
  · rw [GuardKept, hfeeder]
    refine hguard.imp_right fun hle => le_of_eq_of_le (minimumSum_congr fun y => ?_) hle
    rw [hmap, zones_map_set]

theorem clampNat_mem {lo hi : Nat} (h : lo ≤ hi) (n : Nat) :
    lo ≤ clampNat lo hi n ∧ clampNat lo hi n ≤ hi := by
  unfold clampNat
  omega

theorem State.setZoneMap_keeps {s : State} (zone : Nat) (f : ZoneFields)
    (h : ZonesFit s ∧ MapKept s) :
    ZonesFit (s.setZoneMap zone f).2 ∧ MapKept (s.setZoneMap zone f).2 := by
  obtain hsame | ⟨z, level, enabled, band, hstate, hallowed, hwrite⟩ := s.setZoneMap_cases zone f
  · rwa [hsame]
  · rw [hwrite]
    exact State.writeZone_keeps band hstate hallowed (clampNat_mem (by decide) f.maxKW) h

/-! ## SET_ROW_LENGTH and SET_LINE -/

theorem State.setRowLength_keeps {s : State} (value : Nat) (h : MapKept s) :
    MapKept (s.setRowLength value).2 := by
  unfold State.setRowLength
  repeat' split
  case isFalse hfits =>
    obtain ⟨⟨hrange, -, hdisjoint⟩, hguard⟩ := h
    refine ⟨⟨hrange, fun z hz => ?_, hdisjoint⟩, hguard⟩
    by_contra hbeyond
    refine hfits (List.any_eq_true.mpr ⟨z, ?_, decide_eq_true (Nat.le_of_not_lt hbeyond)⟩)
    exact List.mem_filter.mpr ⟨List.mem_finRange z, hz⟩
  all_goals exact h

theorem State.setLine_keeps {s : State} (parts : Nat) (f : LineFields) (h : MapKept s) :
    MapKept (s.setLine parts f).2 := by
  have hstored : ∀ p : LineParameters, (s.storeParameters p).zones = s.zones ∧
      (s.storeParameters p).row = s.row ∧
      (s.storeParameters p).feeder.feederLimit = p.feederLimit := fun p => by
    simp [State.storeParameters]
  simp only [State.setLine]
  repeat' split
  · exact h
  · exact h
  rename_i hguard
  obtain ⟨hmaps, hlimit⟩ := h
  obtain ⟨hzones, hrow, hfeeder⟩ := hstored (newParameters parts f s.parameters)
  refine ⟨?_, ?_⟩
  · change MapsLegal (s.storeParameters _)
    rwa [MapsLegal, hzones, hrow]
  · change GuardKept (s.storeParameters _)
    rw [GuardKept, hzones, hfeeder]
    cases hpart : hasPart parts 0 with
    | true =>
      rw [hpart, Bool.true_and, decide_eq_true_eq] at hguard
      exact .inr (Nat.le_of_not_lt hguard)
    | false => simpa [newParameters, hpart, State.parameters, GuardKept] using hlimit

/-! ## Every command -/

theorem zoneLaws_read :
    Reads (fun s => ZonesFit s ∧ MapKept s) [.zones, .row, .feeder] := by
  rintro s t hsame ⟨hfit, hmap⟩
  have hzones : t.zones = s.zones := hsame .zones (by simp)
  have hrow : t.row = s.row := hsame .row (by simp)
  have hfeeder : t.feeder = s.feeder := hsame .feeder (by simp)
  exact ⟨by rwa [ZonesFit, hzones],
    hmap.of_maps (by simp [hzones]) (by rw [hrow]) (by rw [hfeeder])⟩

theorem ZonesMoved.keeps_zonesFit {s t : State} (h : ZonesMoved s t) (hs : ZonesFit s) :
    ZonesFit t :=
  fun z => h.keeps (fun _ _ hmove => hmove.keeps_fits) z (hs z)

theorem zoneLaws_effect (i : Instr) (s : State) (h : ZonesFit s ∧ MapKept s) :
    ZonesFit (effect i s) ∧ MapKept (effect i s) := by
  by_cases hreset : ∃ levels, i = .powerOnReset (.released levels)
  · obtain ⟨levels, rfl⟩ := hreset
    have hpower := And.intro (powerOn_zonesFit levels s.pending) (powerOn_mapKept levels s.pending)
    simp only [effect, State.releasePowerOn]
    split
    · have hmoved := (State.powerOn levels s.pending).restartEntry_moves .ctrlReset
      exact ⟨hmoved.keeps_zonesFit hpower.1, hpower.2.of_maps hmoved.map_eq
        (by simp [State.restartEntry, RowTracker.restartEntry]) (by simp [State.restartEntry])⟩
    · exact hpower
  have hreset := not_exists.mp hreset
  by_cases hzone : ∃ c z f, i = .setZone c z f
  · obtain ⟨c, z, f, rfl⟩ := hzone
    exact zoneLaws_read.answering (act := fun s => s.setZoneMap z f) (by simp)
      (s.setZoneMap_keeps z f h)
  have hmoved := effect_moves i s (by simpa using hzone) hreset
  have hfit := hmoved.keeps_zonesFit h.1
  by_cases hrow : ∃ c v, i = .setRowLength c v
  · obtain ⟨c, v, rfl⟩ := hrow
    exact ⟨hfit, (State.setRowLength_keeps v h.2).of_maps
      (by simp [effect, State.answering]) (by simp [effect, State.answering])
      (by simp [effect, State.answering])⟩
  by_cases hline : ∃ c p f, i = .setLine c p f
  · obtain ⟨c, p, f, rfl⟩ := hline
    exact ⟨hfit, (State.setLine_keeps p f h.2).of_maps
      (by simp [effect, State.answering]) (by simp [effect, State.answering])
      (by simp [effect, State.answering])⟩
  exact ⟨hfit, h.2.of_maps hmoved.map_eq (effect_rowLength i s (by simpa using hrow) hreset)
    (effect_feederLimit i s (by simpa using hline) hreset)⟩

/-- Settles O55: the channels' laws are kept by every move (`ZoneMove.keeps_fits`), the map is written by
SET_ZONE alone, behind its checks, and the row's length and the feeder limit behind theirs. -/
theorem zoneLawsKept : Obligations.ZoneLawsKept := by
  unfold Obligations.ZoneLawsKept
  intro s t h hs
  refine step_keeps zoneLaws_read (by simp) (fun i _ u hu => zoneLaws_effect i u hu) ?_ h hs
  intro u hu
  have hmoved := u.elapse_moves 1
  exact ⟨hmoved.keeps_zonesFit hu.1, hu.2.of_maps hmoved.map_eq rfl rfl⟩

end Sys2Proof.Machine
end

section
/-! PROOFS. What the commands do to the live records and the recipes' users (R1, R19, R29). -/

namespace Sys2Proof.Machine

/-! ## The moves of the pool -/

/-- A record's temperatures and target offset in their ranges (R3). -/
def BilletRecord.TempsOk (r : BilletRecord) : Prop :=
  r.ts ≤ 16000 ∧ r.tc ≤ 16000 ∧ -300 ≤ r.targetOffset ∧ r.targetOffset ≤ 300

/-- `r'` is the same billet as `r`, of the same recipe, and keeps the ranges of R3; where `atExit` asks
for it, it stays at the exit too (R2). -/
def SameBillet (atExit : Bool) (r r' : BilletRecord) : Prop :=
  r'.tag = r.tag ∧ r'.loadSeq = r.loadSeq ∧ r'.mass = r.mass ∧ r'.recipe = r.recipe ∧
    (r.TempsOk → r'.TempsOk) ∧ (atExit = true → r.place = .exit → r'.place = .exit)

section
variable {atExit : Bool}

theorem SameBillet.refl (r : BilletRecord) : SameBillet atExit r r :=
  ⟨rfl, rfl, rfl, rfl, id, fun _ => id⟩

theorem SameBillet.trans {r r' r'' : BilletRecord} (h : SameBillet atExit r r')
    (h' : SameBillet atExit r' r'') : SameBillet atExit r r'' := by
  obtain ⟨htag, hseq, hmass, hrecipe, htemps, hexit⟩ := h
  obtain ⟨htag', hseq', hmass', hrecipe', htemps', hexit'⟩ := h'
  exact ⟨htag'.trans htag, hseq'.trans hseq, hmass'.trans hmass, hrecipe'.trans hrecipe,
    fun h => htemps' (htemps h), fun hkeep h => hexit' hkeep (hexit hkeep h)⟩

/-- What one event can do to the live records and the recipes, beside the requests that create or amend
a record or write a recipe: each record stays the same billet, or one is retired. -/
inductive PoolMove (atExit : Bool) (s : State) : State → Prop
  | map {t : State} (f : BilletRecord → BilletRecord) (hf : ∀ r, SameBillet atExit r (f r)) :
      t.pool.records = s.pool.records.map f → t.recipes = s.recipes →
      PoolMove atExit s t
  | retire {t : State} (tag : Nat) (o : BilletOutcome) :
      t.pool.records = (s.retire tag o).pool.records → t.recipes = (s.retire tag o).recipes →
      PoolMove atExit s t

/-- The records and recipes of `t` come from those of `s` by moves. -/
def PoolMoved (atExit : Bool) (s t : State) : Prop :=
  Relation.ReflTransGen (PoolMove atExit) s t

theorem PoolMoved.trans {s t u : State} (h : PoolMoved atExit s t) (h' : PoolMoved atExit t u) :
    PoolMoved atExit s u :=
  Relation.ReflTransGen.trans h h'

theorem PoolMoved.map {s t : State} (f : BilletRecord → BilletRecord)
    (hf : ∀ r, SameBillet atExit r (f r)) (hrecords : t.pool.records = s.pool.records.map f)
    (hrecipes : t.recipes = s.recipes) : PoolMoved atExit s t :=
  .single (.map f hf hrecords hrecipes)

theorem PoolMoved.of_same {s t : State} (hrecords : t.pool.records = s.pool.records)
    (hrecipes : t.recipes = s.recipes) : PoolMoved atExit s t :=
  .map id SameBillet.refl (by simpa using hrecords) hrecipes

theorem PoolMoved.after {s t u : State} (h : PoolMoved atExit t u)
    (hrecords : t.pool.records = s.pool.records) (hrecipes : t.recipes = s.recipes) :
    PoolMoved atExit s u :=
  (PoolMoved.of_same hrecords hrecipes).trans h

theorem PoolMoved.of_frame {l : List Block} {s t : State} (h : UnchangedBut l s t)
    (hpool : .pool ∉ l) (hrecipes : .recipes ∉ l) : PoolMoved atExit s t :=
  .of_same (congrArg Pool.records (h .pool hpool)) (h .recipes hrecipes)

theorem PoolMoved.modifyRecord (s : State) (tag : Nat) {f : BilletRecord → BilletRecord}
    (hf : ∀ r, SameBillet atExit r (f r)) : PoolMoved atExit s (s.modifyRecord tag f) := by
  refine .map (fun r => if r.tag = tag then f r else r) (fun r => ?_) rfl rfl
  split
  · exact hf r
  · exact .refl r

/-! ## Operations that keep every record the same billet -/

section
variable (s : State)

theorem State.retire_moves (tag : Nat) (o : BilletOutcome) : PoolMoved atExit s (s.retire tag o) :=
  .single (.retire tag o rfl rfl)

theorem State.arrive_moves (tag : Nat) : PoolMoved atExit s (s.arrive tag) :=
  .trans (.modifyRecord s tag (f := fun r => { r with place := .exit })
    fun _ => ⟨rfl, rfl, rfl, rfl, id, fun _ _ => rfl⟩) (.of_same rfl rfl)

theorem State.enterRejecting_moves (tag : Nat) (o : BilletOutcome) :
    PoolMoved atExit s (s.enterRejecting tag o) :=
  .trans (.modifyRecord s tag (f := fun r => { r with outcome := some o })
    fun _ => ⟨rfl, rfl, rfl, rfl, id, fun _ => id⟩) (.of_same rfl rfl)

theorem State.serveTake_moves : PoolMoved atExit s s.serveTake := by
  obtain h | ⟨-, -, r, -, ⟨o, -, h⟩ | ⟨-, h⟩⟩ := s.serveTake_cases
  · exact .of_same (by rw [h]) (by rw [h])
  · rw [h]
    exact s.enterRejecting_moves r.tag o
  · exact .of_same (by rw [h]) (by rw [h])

theorem State.vacate_moves (o : BilletOutcome) : PoolMoved atExit s (s.vacate o) := by
  unfold State.vacate
  cases s.exit.slot with
  | none => exact .of_same rfl rfl
  | some tag => exact .trans (s.retire_moves tag o) (.of_same rfl rfl)

theorem State.endTransfer_moves (o : BilletOutcome) : PoolMoved atExit s (s.endTransfer o) :=
  .trans (s.vacate_moves o) (.of_same (by simp [State.endTransfer]) (by simp [State.endTransfer]))

theorem clampInt_mem {lo hi : Int} (h : lo ≤ hi) (n : Int) :
    lo ≤ clampInt lo hi n ∧ clampInt lo hi n ≤ hi := by
  unfold clampInt
  omega

theorem clampTemp_le (t : Int) : (clampInt 0 Config.tempMax t).toNat ≤ 16000 := by
  have h := clampInt_mem (lo := 0) (hi := Config.tempMax) (by decide) t
  simp only [Config.tempMax] at h ⊢
  omega

theorem resync_sameBillet (measured : Nat) (r : BilletRecord) :
    SameBillet atExit r (resync measured r) :=
  ⟨rfl, rfl, rfl, rfl, fun h => ⟨clampTemp_le _, clampTemp_le _, h.2.2⟩, fun _ => id⟩

theorem State.applyResync_moves (r : BilletRecord) (measured : Nat) :
    PoolMoved atExit s (s.applyResync r measured) := by
  refine .trans (.modifyRecord s r.tag (resync_sameBillet measured)) ?_
  simp only [State.applyResync]
  split <;> exact .of_same rfl rfl

theorem State.enterReady_moves : PoolMoved atExit s s.enterReady :=
  (State.serveTake_moves _).after rfl rfl

theorem State.closeWindow_moves : PoolMoved atExit s s.closeWindow := by
  simp only [State.closeWindow]
  split
  · exact .of_same rfl rfl
  split
  · exact s.enterRejecting_moves _ _
  split
  · exact (s.applyResync_moves _ _).trans (State.enterRejecting_moves _ _ _)
  · exact (s.applyResync_moves _ _).trans (State.enterReady_moves _)

theorem State.takeReading_moves (value : Nat) (valid : Bool) :
    PoolMoved atExit s (s.takeReading value valid) := by
  simp only [State.takeReading]
  repeat' split
  · exact (State.closeWindow_moves _).after rfl rfl
  all_goals exact .of_same rfl rfl

theorem State.takeStep_moves : PoolMoved atExit s s.takeStep := by
  have hact : ∀ (u : State) ref, PoolMoved atExit u (u.actOnStep ref) := by
    intro u ref
    simp only [State.actOnStep]
    split
    · split
      · exact (State.enterRejecting_moves _ _ _).after rfl rfl
      · exact .of_same rfl rfl
    · exact .of_same rfl rfl
  unfold State.takeStep
  split
  · exact .of_same rfl rfl
  · exact (hact _ _).after rfl rfl

theorem State.takeMark_moves : PoolMoved atExit s s.takeMark := by
  have hact : ∀ (u : State) ref, PoolMoved atExit u (u.actOnMark ref) := by
    intro u ref
    unfold State.actOnMark
    split
    · exact u.enterRejecting_moves _ _
    · exact .of_same rfl rfl
  unfold State.takeMark
  split
  · exact .of_same rfl rfl
  · exact (hact _ _).after rfl rfl

theorem State.takeRequest_moves : PoolMoved atExit s s.takeRequest := by
  unfold State.takeRequest
  split <;> exact (State.serveTake_moves _).after rfl rfl

theorem thermalStep_sameBillet (f : RecipeFields) (tAmb : Nat) (mode : LineMode)
    (band : Option Band) (energy : Nat) (r : BilletRecord) :
    SameBillet atExit r (thermalStep f tAmb mode band energy r) :=
  ⟨rfl, rfl, rfl, rfl, fun h => ⟨clampTemp_le _, clampTemp_le _, h.2.2⟩, fun _ => id⟩

theorem State.stepped_sameBillet (band : Option Band) (energy : Nat) (r : BilletRecord) :
    SameBillet atExit r (s.stepped band energy r) :=
  thermalStep_sameBillet _ _ _ _ _ r

theorem State.stepEntries_moves (band : Option Band) (shared : List (ReportEntry × Nat)) :
    PoolMoved atExit s (s.stepEntries band shared) := by
  refine .map _ (fun r => ?_) rfl rfl
  split
  · exact .refl r
  · exact s.stepped_sameBillet band _ r

theorem State.absorb_moves (report : Report) : PoolMoved atExit s (s.absorb report) := by
  simp only [State.absorb]
  split
  · exact s.stepEntries_moves _ _
  · exact .trans (s.stepEntries_moves _ _) (.of_same rfl rfl)

theorem State.takeReport_moves (origin : Option ZoneId) :
    PoolMoved atExit s (s.takeReport origin) := by
  unfold State.takeReport
  repeat' split
  · exact (State.absorb_moves _ _).after rfl rfl
  all_goals exact .of_same rfl rfl

theorem repeatStep_sameBillet {step : BilletRecord → BilletRecord}
    (hstep : ∀ r, SameBillet atExit r (step r)) (n : Nat) (r : BilletRecord) :
    SameBillet atExit r (repeatStep step n r) := by
  induction n generalizing r with
  | zero => exact .refl r
  | succ n ih => exact (hstep r).trans (ih _)

theorem State.caughtUp_sameBillet (r : BilletRecord) : SameBillet atExit r (s.caughtUp r) := by
  have hstale : SameBillet atExit r (markStale s.missedRounds r) := by
    unfold markStale
    split
    · exact ⟨rfl, rfl, rfl, rfl, id, fun _ => id⟩
    · exact .refl r
  unfold State.caughtUp
  split
  · exact hstale.trans (repeatStep_sameBillet (s.stepped_sameBillet none 0) _ _)
  · exact .refl r

theorem State.catchUp_moves : PoolMoved atExit s s.catchUp := .map _ s.caughtUp_sameBillet rfl rfl

theorem State.takeHeldReports_moves : PoolMoved atExit s s.takeHeldReports := by
  have hfold : ∀ (reports : List Report) (u : State),
      PoolMoved atExit u (reports.foldl State.absorb u) := by
    intro reports
    induction reports with
    | nil => exact fun u => .of_same rfl rfl
    | cons report rest ih => exact fun u => (u.absorb_moves report).trans (ih _)
  exact (hfold _ _).after rfl rfl

theorem State.retireInFlight_moves : PoolMoved atExit s s.retireInFlight := by
  unfold State.retireInFlight
  split
  · exact s.endTransfer_moves _
  · exact .of_same rfl rfl

theorem State.releaseHeld_poolMoves (retireFirst : Bool) :
    PoolMoved atExit s (s.releaseHeld retireFirst) := by
  have hbillets : ∀ u : State, PoolMoved atExit u (u.releaseBillets retireFirst).1 := by
    intro u
    cases retireFirst with
    | true =>
      exact u.retireInFlight_moves.trans
        ((State.takeHeldReports_moves _).trans (State.catchUp_moves _))
    | false =>
      exact u.takeHeldReports_moves.trans
        ((State.catchUp_moves _).trans (State.retireInFlight_moves _))
  unfold State.releaseHeld
  split
  · rename_i h _
    rw [State.release_eq]
    exact .trans (.of_frame (s.released_frame h) (by simp) (by simp)) (.trans (hbillets _)
      (.trans (.of_frame (State.restartWindow_frame _) (by simp) (by simp)) (.of_same rfl rfl)))
  · exact .of_same rfl rfl

theorem State.advanceRow_moves : PoolMoved false s s.advanceRow := by
  refine .map _ (fun r => ?_) rfl rfl
  split
  · exact ⟨rfl, rfl, rfl, rfl, id, nofun⟩
  · exact ⟨rfl, rfl, rfl, rfl, id, nofun⟩

theorem State.handOff_moves (tag : Nat) : PoolMoved atExit s (s.handOff tag) := by
  unfold State.handOff
  split
  · exact s.arrive_moves tag
  · exact (s.vacate_moves _).trans (.trans (State.arrive_moves _ tag) (.of_same rfl rfl))

theorem State.shift_moves : PoolMoved false s s.shift := by
  unfold State.shift
  refine .trans ?_ (State.advanceRow_moves _)
  cases s.row.ejected with
  | none => exact .of_same rfl rfl
  | some tag => exact s.handOff_moves tag

theorem State.testQueue_frame : UnchangedBut [.link] s s.testQueue := by
  simp [unchangedBut_iff, State.testQueue]

/-- After the shift a stroke end touches row, link and line only (R64). -/
theorem State.afterShift_frame :
    UnchangedBut [.row, .link, .line] s s.cadenceMeasured.testQueue.drainTest := by
  refine .trans (t := s.cadenceMeasured) (by simp [unchangedBut_iff, State.cadenceMeasured]) ?_
  exact (s.cadenceMeasured.testQueue_frame.mono (by simp)).trans (by simp [unchangedBut_iff])

theorem State.endStroke_afterShift_frame :
    UnchangedBut [.row, .link, .line] s.strokeClosed.shift s.endStroke := by
  rw [State.endStroke_eq]
  split
  · exact (State.afterShift_frame _).trans (by simp [unchangedBut_iff])
  · exact State.afterShift_frame _

theorem State.homeEdge_moves : PoolMoved false s s.homeEdge := by
  unfold State.homeEdge
  split
  · have hclosed : PoolMoved false s s.strokeClosed := .of_same rfl rfl
    exact (hclosed.trans (State.shift_moves _)).trans
      (.of_frame s.endStroke_afterShift_frame (by simp) (by simp))
  · exact .of_same rfl rfl

theorem State.withdraw_moves (tag : Nat) : PoolMoved atExit s (s.withdraw tag).2 := by
  simp only [State.withdraw]
  repeat' split
  · exact .of_same rfl rfl
  · exact (State.retire_moves _ tag _).after rfl rfl
  · exact .of_same rfl rfl

theorem State.pressDone_moves : PoolMoved atExit s s.pressDone := by
  unfold State.pressDone
  split
  · exact s.endTransfer_moves _
  · exact .of_same rfl rfl

theorem State.chuteDone_moves : PoolMoved atExit s s.chuteDone := by
  unfold State.chuteDone
  split
  · exact s.endTransfer_moves _
  · exact .of_same rfl rfl

theorem State.expireWindow_moves : PoolMoved atExit s s.expireWindow := by
  unfold State.expireWindow
  repeat' split
  · exact .of_same rfl rfl
  · exact .trans (.of_frame (s.reach_frame _) (by simp) (by simp)) (State.closeWindow_moves _)
  · exact .of_same rfl rfl

theorem State.expireTransfer_moves : PoolMoved atExit s s.expireTransfer := by
  unfold State.expireTransfer
  repeat' split
  · exact .of_same rfl rfl
  · exact .trans (.of_frame (s.reach_frame _) (by simp) (by simp)) (State.endTransfer_moves _ _)
  · exact .of_same rfl rfl

theorem State.readLastRetired_moves (clear : Nat) :
    PoolMoved atExit s (s.readLastRetired clear).2 := by
  unfold State.readLastRetired
  split <;> exact .of_same rfl rfl

end

theorem PoolMoved.answering {s : State} {act : State → Response × State}
    (h : PoolMoved atExit s (act s).2) : PoolMoved atExit s (State.answering act s) :=
  h.trans (.of_same rfl rfl)

theorem PoolMoved.counted {s t : State} (b : Bool) (h : PoolMoved atExit s t) :
    PoolMoved atExit s (if b then t else s) := by
  cases b
  · exact .of_same rfl rfl
  · exact h

/-- The commands that create or amend a record, write a recipe or its learned part, or release power-on
reset; every other command moves the pool. -/
def writesPool : Instr → Bool
  | .powerOnReset (.released _) => true
  | .loadBillet _ _ _ _ _ => true
  | .amendBillet _ _ _ _ _ => true
  | .writeRecipe _ _ _ _ => true
  | .resetBias _ _ => true
  | .adaptationUpdate => true
  | _ => false

/-- The pool moves; that records at the exit stay there is claimed for every command but a stroke end,
which feeds the head of the queue into the row wherever that record stands. -/
theorem effect_poolMoves {i : Instr} (h : writesPool i = false)
    (hstroke : atExit = true → ∀ e, i ≠ .strokeEnd e) (s : State) :
    PoolMoved atExit s (effect i s) := by
  by_cases htouch : .pool ∈ touched i
  swap
  · refine .of_frame (effect_frame i s) htouch fun hrecipes => ?_
    cases i <;> simp_all [touched, writesPool]
  cases i with
  | powerOnReset edge =>
    cases edge with
    | held => exact .of_same rfl rfl
    | released levels => cases h
  | loadBillet => cases h
  | amendBillet => cases h
  | restartRelease first => exact s.releaseHeld_poolMoves first
  | withdrawBillet _ tag => exact .answering (act := fun s => s.withdraw tag) (s.withdraw_moves tag)
  | readLastRetired _ clear =>
    exact .answering (act := fun s => s.readLastRetired clear) (s.readLastRetired_moves clear)
  | strokeEnd e =>
    obtain rfl : atExit = false := by
      cases atExit with
      | false => rfl
      | true => exact absurd rfl (hstroke rfl e)
    exact .counted _ s.homeEdge_moves
  | takeEdge e => exact .counted _ s.takeRequest_moves
  | pressDoneEdge e => exact .counted _ s.pressDone_moves
  | chuteDoneEdge e => exact .counted _ s.chuteDone_moves
  | transferTimerExpiry => exact s.expireTransfer_moves
  | pyrometerReading value valid => exact s.takeReading_moves value valid
  | measurementWindowExpiry => exact s.expireWindow_moves
  | stepNotice => exact s.takeStep_moves
  | markNotice => exact s.takeMark_moves
  | energyReport z => exact s.takeReport_moves (some z)
  | unheatedReport => exact s.takeReport_moves none
  | _ => simp [touched] at htouch

/-! ## What the moves keep -/

/-- Retirement, whether or not a live record carries the tag (R19). -/
theorem State.retire_cases (s : State) (tag : Nat) (o : BilletOutcome) :
    s.lookup tag = none ∧ s.retire tag o = s ∨
      ∃ r, s.lookup tag = some r ∧
        (s.retire tag o).pool.records = s.pool.records.filter (fun x => x.tag != tag) ∧
        (s.retire tag o).recipes = s.recipes.set r.recipe
          { s.recipes[r.recipe] with users := s.recipes[r.recipe].users - 1 } := by
  cases h : s.lookup tag with
  | none => exact .inl ⟨rfl, by simp only [State.retire, h]⟩
  | some r =>
    refine .inr ⟨r, rfl, ?_, ?_⟩ <;> rw [State.retire_of_lookup o h]

/-- Every record of the moved pool is a record of before. -/
theorem PoolMoved.origin {s t : State} (h : PoolMoved atExit s t) :
    ∀ r' ∈ t.pool.records, ∃ r ∈ s.pool.records, SameBillet atExit r r' := by
  induction h with
  | refl => exact fun r hr => ⟨r, hr, .refl r⟩
  | tail _ hmove ih =>
    intro r' hr'
    cases hmove with
    | map f hf hrecords =>
      rw [hrecords] at hr'
      obtain ⟨r, hr, rfl⟩ := List.mem_map.mp hr'
      obtain ⟨r₀, hr₀, hsame⟩ := ih r hr
      exact ⟨r₀, hr₀, hsame.trans (hf r)⟩
    | retire tag o hrecords =>
      rw [hrecords] at hr'
      obtain ⟨-, hnone⟩ | ⟨r, -, hretired, -⟩ := State.retire_cases _ tag o
      · rw [hnone] at hr'
        exact ih r' hr'
      · rw [hretired] at hr'
        exact ih r' (List.mem_filter.mp hr').1

theorem PoolMoved.keeps_temps {s t : State} (h : PoolMoved atExit s t) (hs : TempsBounded s) :
    TempsBounded t := by
  intro r' hr'
  obtain ⟨r, hr, -, -, -, -, htemps, -⟩ := h.origin r' hr'
  exact htemps (hs r hr)

theorem recipes_set_same (recipes : Vector Recipe 16) (k : RecipeId) (e : Recipe) :
    (recipes.set k e)[k] = e := by
  simp

theorem recipes_set_other (recipes : Vector Recipe 16) {j k : RecipeId} (h : j ≠ k) (e : Recipe) :
    (recipes.set k e)[j] = recipes[j] := by
  have hv : k.val ≠ j.val := fun e => h (Fin.ext e.symm)
  simp [hv]

/-- A change of one recipe that keeps a property of it keeps that property of all. -/
theorem recipes_set_all {recipes : Vector Recipe 16} {k : RecipeId} {e : Recipe} {Q : Recipe → Prop}
    (he : Q e) (h : ∀ j : RecipeId, Q recipes[j]) (j : RecipeId) : Q (recipes.set k e)[j] := by
  by_cases hj : j = k
  · subst hj
    rwa [recipes_set_same]
  · rw [recipes_set_other _ hj]
    exact h j

theorem PoolMoved.keeps_bias {s t : State} (h : PoolMoved atExit s t) (hs : BiasBounded s) :
    BiasBounded t := by
  induction h with
  | refl => exact hs
  | tail _ hmove ih =>
    cases hmove with
    | map f hf _ hrecipes => rwa [BiasBounded, hrecipes]
    | retire tag o _ hrecipes =>
      obtain ⟨-, hnone⟩ | ⟨r, -, -, hretired⟩ := State.retire_cases _ tag o
      · rw [hnone] at hrecipes
        rwa [BiasBounded, hrecipes]
      · intro j
        rw [hrecipes, hretired]
        refine recipes_set_all (Q := fun e => -500 ≤ e.bias ∧ e.bias ≤ 500) ?_ ih j
        exact ih r.recipe

end

end Sys2Proof.Machine
end

section
/-! PROOFS. The stored quantities stay in their ranges (R3, R28, R93, R95, R162). -/

namespace Sys2Proof.Machine

/-! ## Temperatures and offsets (R3) -/

theorem tempsBounded_reads : Reads TempsBounded [.pool] := by
  intro s t hsame hs
  have hpool : t.pool = s.pool := hsame .pool (by simp)
  rwa [TempsBounded, hpool]

theorem newRecord_temps (tag loadSeq : Nat) (recipe : RecipeId) (mass initial : Nat) :
    (newRecord tag loadSeq recipe mass initial).TempsOk := by
  simp only [BilletRecord.TempsOk, newRecord, Config.tempMax]
  omega

/-- A refused LOAD_BILLET changes nothing; an accepted one creates its record (R11, R12). -/
theorem State.load_cases (s : State) (tag recipe mass initial : Nat) :
    (s.load tag recipe mass initial).2 = s ∨
      ∃ k : RecipeId, (1 ≤ tag ∧ tag ≤ 65535) ∧ s.validRecipe recipe = some k ∧
        s.lookup tag = none ∧ s.pool.queue.length < 8 ∧
        (s.load tag recipe mass initial).2 = s.createRecord tag k mass initial := by
  simp only [State.load]
  split
  · exact .inl rfl
  rename_i htag
  simp only [Bool.or_eq_true, decide_eq_true_eq, not_or, Nat.not_lt] at htag
  split
  · exact .inl rfl
  split
  · exact .inl rfl
  split
  · exact .inl rfl
  rename_i hfree
  split
  · exact .inl rfl
  · exact .inr ⟨_, ⟨Nat.pos_of_ne_zero htag.1, htag.2⟩, ‹_›, Option.not_isSome_iff_eq_none.mp hfree,
      Nat.lt_of_not_le ‹_›, rfl⟩

theorem State.load_temps {s : State} (tag recipe mass initial : Nat) (hs : TempsBounded s) :
    TempsBounded (s.load tag recipe mass initial).2 := by
  obtain h | ⟨k, -, -, -, -, h⟩ := s.load_cases tag recipe mass initial
  · rwa [h]
  · rw [h]
    intro r hr
    obtain hr | hr := List.mem_append.mp (show r ∈ s.pool.records ++ [_] from hr)
    · exact hs r hr
    · rw [List.mem_singleton.mp hr]
      exact newRecord_temps _ _ _ _ _

/-- A refused AMEND_BILLET changes nothing; an accepted one applies its amendment to a live record, and
a new recipe only to a queued one (R16, R17). -/
theorem State.amendBillet_cases (s : State) (tag parts : Nat) (offset : Int) (recipe : Nat) :
    (s.amendBillet tag parts offset recipe).2 = s ∨
      ∃ (r : BilletRecord) (k : Option RecipeId), s.lookup tag = some r ∧
        (k = none ∨ r.place = .queued ∧ ∃ j, k = some j ∧ s.validRecipe recipe = some j) ∧
        (s.amendBillet tag parts offset recipe).2 = s.applyAmend r parts offset k := by
  unfold State.amendBillet
  split
  swap
  · exact .inl (s.amendUnnamed_unchanged tag parts recipe)
  unfold State.amend
  split
  · exact .inl rfl
  rename_i r k hchecks
  refine .inr ⟨r, k, ?_⟩
  unfold State.amendChecks at hchecks
  split at hchecks
  · cases hchecks
  split at hchecks
  · split at hchecks
    · split at hchecks
      · cases hchecks
      · cases hchecks
        exact ⟨‹_›, .inr ⟨‹_›, _, rfl, ‹_›⟩, rfl⟩
    · cases hchecks
  · cases hchecks
    exact ⟨‹_›, .inl rfl, rfl⟩

theorem State.applyAmend_pool (s : State) (r : BilletRecord) (parts : Nat) (offset : Int)
    (k : Option RecipeId) :
    (s.applyAmend r parts offset k).pool = { s.pool with
      records := s.pool.records.map fun x =>
        if x.tag = r.tag then amendRecord parts offset k x else x } := by
  have hmark : ∀ u : State, (u.tellMark r).pool = u.pool := fun u => u.tellMark_frame r .pool (by simp)
  have huser : ∀ (u : State) old new, (u.moveUser old new).pool = u.pool := fun u old new =>
    u.moveUser_frame old new .pool (by simp)
  simp only [State.applyAmend]
  split <;> simp only [hmark, huser, State.modifyRecord]

theorem State.applyAmend_records (s : State) (r : BilletRecord) (parts : Nat) (offset : Int)
    (k : Option RecipeId) :
    (s.applyAmend r parts offset k).pool.records =
      s.pool.records.map fun x => if x.tag = r.tag then amendRecord parts offset k x else x :=
  congrArg Pool.records (s.applyAmend_pool r parts offset k)

theorem amendRecord_temps (parts : Nat) (offset : Int) (k : Option RecipeId) {r : BilletRecord}
    (h : r.TempsOk) : (amendRecord parts offset k r).TempsOk := by
  obtain ⟨hts, htc, hlow, hhigh⟩ := h
  refine ⟨hts, htc, ?_⟩
  simp only [amendRecord]
  split
  · exact clampInt_mem (by decide) offset
  · exact ⟨hlow, hhigh⟩

theorem State.amendBillet_temps {s : State} (tag parts : Nat) (offset : Int) (recipe : Nat)
    (hs : TempsBounded s) : TempsBounded (s.amendBillet tag parts offset recipe).2 := by
  obtain h | ⟨r, k, -, -, h⟩ := s.amendBillet_cases tag parts offset recipe
  · rwa [h]
  · rw [h]
    intro r' hr'
    rw [State.applyAmend_records] at hr'
    obtain ⟨x, hx, rfl⟩ := List.mem_map.mp hr'
    split
    · exact amendRecord_temps parts offset k (hs x hx)
    · exact hs x hx

theorem State.releasePowerOn_pool (s : State) (levels : Levels) :
    (s.releasePowerOn levels).pool.records = [] ∧
      (s.releasePowerOn levels).recipes = Vector.replicate 16 Recipe.reset := by
  simp only [State.releasePowerOn]
  split <;> simp [State.restartEntry, State.powerOn, Pool.reset]

theorem effect_temps {i : Instr} {s : State} (h : TempsBounded s) : TempsBounded (effect i s) := by
  cases hwrites : writesPool i with
  | false => exact (effect_poolMoves (atExit := false) hwrites nofun s).keeps_temps h
  | true =>
    by_cases htouch : .pool ∈ touched i
    swap
    · exact tempsBounded_reads.of_frame (effect_frame i s) (by simpa using htouch) h
    cases i with
    | powerOnReset edge =>
      cases edge with
      | held => cases hwrites
      | released levels =>
        intro r hr
        rw [effect, (s.releasePowerOn_pool levels).1] at hr
        cases hr
    | loadBillet _ tag recipe mass initial =>
      exact tempsBounded_reads.answering (act := fun s => s.load tag recipe mass initial) (by simp)
        (State.load_temps tag recipe mass initial h)
    | amendBillet _ tag parts offset recipe =>
      exact tempsBounded_reads.answering (act := fun s => s.amendBillet tag parts offset recipe)
        (by simp) (State.amendBillet_temps tag parts offset recipe h)
    | _ => simp [touched, writesPool] at htouch hwrites

/-! ## Biases (R28) -/

theorem biasBounded_reads : Reads BiasBounded [.recipes] := by
  intro s t hsame hs
  have hrecipes : t.recipes = s.recipes := hsame .recipes (by simp)
  rwa [BiasBounded, hrecipes]

/-- A bias in its range (R28). -/
def Recipe.BiasOk (e : Recipe) : Prop := -500 ≤ e.bias ∧ e.bias ≤ 500

theorem State.modifyRecipe_bias {s : State} (k : RecipeId) {f : Recipe → Recipe}
    (hf : ∀ e : Recipe, e.BiasOk → (f e).BiasOk) (hs : BiasBounded s) :
    BiasBounded (s.modifyRecipe k f) := fun j =>
  recipes_set_all (Q := Recipe.BiasOk) (hf _ (hs k)) hs j

theorem State.load_bias {s : State} (tag recipe mass initial : Nat) (hs : BiasBounded s) :
    BiasBounded (s.load tag recipe mass initial).2 := by
  obtain h | ⟨k, -, -, -, -, h⟩ := s.load_cases tag recipe mass initial
  · rwa [h]
  · rw [h]
    exact State.modifyRecipe_bias k (fun _ he => he) hs

theorem State.moveUser_bias {s : State} (old new : RecipeId) (hs : BiasBounded s) :
    BiasBounded (s.moveUser old new) := by
  unfold State.moveUser
  split
  · exact hs
  · exact State.modifyRecipe_bias new (fun _ he => he)
      (State.modifyRecipe_bias old (fun _ he => he) hs)

theorem State.applyAmend_recipes (s : State) (r : BilletRecord) (parts : Nat) (offset : Int)
    (k : Option RecipeId) :
    (s.applyAmend r parts offset k).recipes = (s.moveUser r.recipe (k.getD r.recipe)).recipes := by
  have hmark : ∀ u : State, (u.tellMark r).recipes = u.recipes := fun u =>
    u.tellMark_frame r .recipes (by simp)
  have huser : ((s.modifyRecord r.tag (amendRecord parts offset k)).moveUser r.recipe
      (k.getD r.recipe)).recipes = (s.moveUser r.recipe (k.getD r.recipe)).recipes := by
    simp only [State.moveUser]
    split <;> rfl
  simp only [State.applyAmend]
  split <;> simp only [hmark, huser]

theorem State.amendBillet_bias {s : State} (tag parts : Nat) (offset : Int) (recipe : Nat)
    (hs : BiasBounded s) : BiasBounded (s.amendBillet tag parts offset recipe).2 := by
  obtain h | ⟨r, k, -, -, h⟩ := s.amendBillet_cases tag parts offset recipe
  · rwa [h]
  · rw [h, BiasBounded, State.applyAmend_recipes]
    exact State.moveUser_bias r.recipe (k.getD r.recipe) hs

theorem State.writeRecipe_bias {s : State} (recipe validity : Nat) (f : RecipeFields)
    (hs : BiasBounded s) : BiasBounded (s.writeRecipe recipe validity f).2 := by
  unfold State.writeRecipe
  repeat' split
  all_goals first
    | exact hs
    | exact State.modifyRecipe_bias _ (fun _ he => he) hs

theorem Recipe.forget_bias (e : Recipe) : e.forget.BiasOk := by
  simp [Recipe.BiasOk, Recipe.forget]

theorem State.resetBias_bias {s : State} (selection : Nat) (hs : BiasBounded s) :
    BiasBounded (s.resetBias selection).2 := by
  unfold State.resetBias
  split
  · intro k
    simpa [accept, Recipe.BiasOk] using Recipe.forget_bias s.recipes[k]
  split
  · exact hs
  · exact State.modifyRecipe_bias _ (fun e _ => e.forget_bias) hs

theorem State.takeUpdate_bias {s : State} (hs : BiasBounded s) : BiasBounded s.takeUpdate := by
  simp only [State.takeUpdate]
  split
  · exact hs
  split
  · refine State.modifyRecipe_bias _ (fun e _ => ?_) (by exact hs)
    exact clampInt_mem (by decide) _
  · exact hs

theorem effect_bias {i : Instr} {s : State} (h : BiasBounded s) : BiasBounded (effect i s) := by
  cases hwrites : writesPool i with
  | false => exact (effect_poolMoves (atExit := false) hwrites nofun s).keeps_bias h
  | true =>
    cases i with
    | powerOnReset edge =>
      cases edge with
      | held => cases hwrites
      | released levels =>
        intro k
        rw [effect, (s.releasePowerOn_pool levels).2]
        simp [Recipe.reset]
    | loadBillet _ tag recipe mass initial =>
      exact biasBounded_reads.answering (act := fun s => s.load tag recipe mass initial) (by simp)
        (State.load_bias tag recipe mass initial h)
    | amendBillet _ tag parts offset recipe =>
      exact biasBounded_reads.answering (act := fun s => s.amendBillet tag parts offset recipe)
        (by simp) (State.amendBillet_bias tag parts offset recipe h)
    | writeRecipe _ recipe validity f =>
      exact biasBounded_reads.answering (act := fun s => s.writeRecipe recipe validity f)
        (by simp) (State.writeRecipe_bias recipe validity f h)
    | resetBias _ selection =>
      exact biasBounded_reads.answering (act := fun s => s.resetBias selection) (by simp)
        (State.resetBias_bias selection h)
    | adaptationUpdate => exact State.takeUpdate_bias h
    | _ => cases hwrites

/-! ## Meters and efficiencies (R93, R95) -/

theorem metersBounded_reads : Reads MetersBounded [.zones] := by
  intro s t hsame hs
  have hzones : t.zones = s.zones := hsame .zones (by simp)
  rwa [MetersBounded, hzones]

theorem ZonesMoved.keeps_meters {s t : State} (h : ZonesMoved s t) (hs : MetersBounded s) :
    MetersBounded t :=
  fun z => h.keeps (fun _ _ hmove => hmove.keeps_metered) z (hs z)

theorem State.setZoneMap_meters {s : State} (zone : Nat) (f : ZoneFields) (hs : MetersBounded s) :
    MetersBounded (s.setZoneMap zone f).2 := by
  obtain hsame | ⟨z, level, enabled, band, -, -, hwrite⟩ := s.setZoneMap_cases zone f
  · rwa [hsame]
  · intro y
    rw [hwrite, State.writeZone_zones]
    by_cases hy : y = z
    · subst hy
      rw [zones_set_same]
      exact hs y
    · rw [zones_set_other _ hy]
      exact hs y

theorem effect_meters {i : Instr} {s : State} (h : MetersBounded s) :
    MetersBounded (effect i s) := by
  by_cases hreset : ∃ levels, i = .powerOnReset (.released levels)
  · obtain ⟨levels, rfl⟩ := hreset
    have hpower : MetersBounded (State.powerOn levels s.pending) := by
      intro z
      rw [powerOn_zone]
      decide
    simp only [effect, State.releasePowerOn]
    split
    · exact (State.restartEntry_moves _ .ctrlReset).keeps_meters hpower
    · exact hpower
  by_cases hzone : ∃ c z f, i = .setZone c z f
  · obtain ⟨c, z, f, rfl⟩ := hzone
    exact metersBounded_reads.answering (act := fun s => s.setZoneMap z f) (by simp)
      (State.setZoneMap_meters z f h)
  exact (effect_moves i s (by simpa using hzone) (not_exists.mp hreset)).keeps_meters h

/-! ## Line parameters (R162) -/

/-- The line parameters the line sequencer stores. -/
def State.settings (s : State) : Nat × Nat × Nat × Nat × Nat :=
  (s.line.nominalCadence, s.line.queueLow, s.line.tAmb, s.line.holdDelay, s.line.transferTimeout)

section
variable (s : State)

theorem State.startAutoHold_settings : s.startAutoHold.settings = s.settings := by
  unfold State.startAutoHold
  split <;> rfl

theorem State.enterRun_settings : s.enterRun.settings = s.settings :=
  State.startAutoHold_settings _

theorem State.drainTest_settings : s.drainTest.settings = s.settings := by
  unfold State.drainTest
  split <;> rfl

theorem State.drainNow_settings : s.drainNow.settings = s.settings := by
  unfold State.drainNow State.enterDrain
  rw [State.drainTest_settings]
  dsimp only
  split
  · exact State.startAutoHold_settings _
  · rfl

theorem State.endTransfer_settings (o : BilletOutcome) : (s.endTransfer o).settings = s.settings := by
  have hline : (s.vacate o).line = s.line := s.vacate_frame o .line (by simp)
  rw [State.endTransfer, State.drainTest_settings, State.settings, hline, State.settings]

theorem State.settings_of_line {s t : State} (h : t.line = s.line) : t.settings = s.settings := by
  rw [State.settings, h, State.settings]

theorem State.endStroke_settings : s.endStroke.settings = s.settings := by
  have hshift : s.strokeClosed.shift.cadenceMeasured.testQueue.settings = s.settings := by
    refine State.settings_of_line ?_
    have hline : s.strokeClosed.shift.line = s.strokeClosed.line :=
      State.shift_frame _ .line (by simp)
    exact (State.testQueue_frame _ .line (by simp)).trans hline
  rw [State.endStroke_eq]
  split
  · exact (State.drainTest_settings _).trans hshift
  · exact (State.drainTest_settings _).trans hshift

theorem State.leaveTrip_settings : s.leaveTrip.settings = s.settings := by
  simp only [State.leaveTrip]
  split <;> rfl

theorem State.clearTrip_settings : s.clearTrip.2.settings = s.settings := by
  unfold State.clearTrip
  repeat' split
  · rfl
  · rfl
  · exact s.leaveTrip_settings

theorem State.start_settings : s.start.2.settings = s.settings := by
  unfold State.start
  repeat' split
  case isFalse => exact s.enterRun_settings
  all_goals rfl

theorem State.modeAction_settings (ok : Bool) {act : State → State}
    (h : (act s).settings = s.settings) : (s.modeAction ok act).2.settings = s.settings := by
  unfold State.modeAction
  split
  · exact h
  · rfl

theorem State.releaseHeld_settings (first : Bool) : (s.releaseHeld first).settings = s.settings := by
  have hflight : ∀ u : State, u.retireInFlight.settings = u.settings := by
    intro u
    unfold State.retireInFlight
    split
    · exact u.endTransfer_settings _
    · rfl
  have hheld : ∀ u : State, u.takeHeldReports.catchUp.settings = u.settings := fun u =>
    State.settings_of_line ((State.catchUp_frame _ .line (by simp)).trans
      (u.takeHeldReports_frame .line (by simp)))
  have hbillets : ∀ u : State, (u.releaseBillets first).1.settings = u.settings := by
    intro u
    cases first with
    | true => exact (hheld _).trans (hflight u)
    | false => exact (hflight _).trans (hheld u)
  have hreleased : ∀ h, (s.released h).settings = s.settings := by
    intro h
    unfold State.released
    split <;> simp [State.settings, State.endHold, State.releaseBlocks]
  have hwindow : ∀ u : State, u.restartWindow.settings = u.settings := fun u =>
    State.settings_of_line (u.restartWindow_frame .line (by simp))
  unfold State.releaseHeld
  split
  · rw [State.release_eq]
    exact (hwindow _).trans ((hbillets _).trans (hreleased _))
  · rfl

end

theorem counted_settings {s t : State} (b : Bool) (h : t.settings = s.settings) :
    (if b then t else s).settings = s.settings := by
  cases b
  · rfl
  · exact h

theorem effect_settings (i : Instr) (s : State) (hset : ∀ c p f, i ≠ .setLine c p f)
    (hreset : ∀ levels, i ≠ .powerOnReset (.released levels)) :
    (effect i s).settings = s.settings := by
  by_cases htouch : .line ∈ touched i
  swap
  · exact State.settings_of_line (effect_frame i s .line htouch)
  cases i with
  | powerOnReset edge =>
    cases edge with
    | held => rfl
    | released levels => exact absurd rfl (hreset levels)
  | setLine c p f => exact absurd rfl (hset c p f)
  | ctrlResetAsserted => rfl
  | restart _ => rfl
  | restartRelease first => exact s.releaseHeld_settings first
  | modeStart _ unnamed =>
    cases unnamed with
    | some b => rfl
    | none => exact s.start_settings
  | modeHold _ => exact s.modeAction_settings _ rfl
  | modeResume _ => exact s.modeAction_settings _ s.enterRun_settings
  | modeDrain _ => exact s.modeAction_settings _ s.drainNow_settings
  | modeTrip _ => exact s.modeAction_settings _ rfl
  | modeClearTrip _ => exact s.clearTrip_settings
  | modeService _ => exact s.modeAction_settings _ rfl
  | modeLeaveService _ =>
    simp only [effect, State.answering, State.leaveService]
    repeat' split
    all_goals rfl
  | strokeEnd e =>
    refine counted_settings _ ?_
    unfold State.homeEdge
    split
    · exact s.endStroke_settings
    · rfl
  | strokeTimerExpiry =>
    simp only [effect, State.expireStroke]
    repeat' split
    all_goals rfl
  | pressDoneEdge e =>
    refine counted_settings _ ?_
    unfold State.pressDone
    split
    · exact s.endTransfer_settings _
    · rfl
  | chuteDoneEdge e =>
    refine counted_settings _ ?_
    unfold State.chuteDone
    split
    · exact s.endTransfer_settings _
    · rfl
  | transferTimerExpiry =>
    simp only [effect, State.expireTransfer]
    repeat' split
    · rfl
    · exact State.endTransfer_settings _ _
    · rfl
  | pressReadyChange active =>
    simp only [effect, State.pressReadyChanged]
    repeat' split
    · rfl
    · exact s.startAutoHold_settings
    · rfl
  | autoHoldExpiry =>
    simp only [effect, State.expireAutoHold]
    repeat' split
    all_goals rfl
  | feederFaultChange active =>
    simp only [effect, State.feederFaultChanged]
    repeat' split
    all_goals rfl
  | _ => simp [touched] at htouch

theorem State.placePointer_window (s : State) : s.placePointer.tuner.window = s.tuner.window := by
  unfold State.placePointer
  repeat' split
  all_goals rfl

theorem State.actOnOutcome_window (s : State) (z : ZoneId) (o : TuneOutcome) :
    (s.actOnOutcome z o).tuner.window = s.tuner.window := by
  have hadvance : ∀ u : State, (u.advancePointer z).tuner.window = u.tuner.window := by
    intro u
    unfold State.advancePointer
    split <;> rfl
  unfold State.actOnOutcome
  split
  · cases o with
    | succeeded => exact hadvance _
    | failed => exact hadvance _
    | refused => rfl
    | abandoned => rfl
  split
  · simp only [State.advanceTuneAll]
    split <;> rfl
  · rfl

theorem effect_window (i : Instr) (s : State) (hset : ∀ c p f, i ≠ .setLine c p f)
    (hreset : ∀ levels, i ≠ .powerOnReset (.released levels)) :
    (effect i s).tuner.window = s.tuner.window := by
  have hentry : s.tuner.restartEntry.window = s.tuner.window := by
    unfold Tuner.restartEntry
    split <;> rfl
  by_cases htouch : .tuner ∈ touched i
  swap
  · rw [effect_frame i s .tuner htouch]
  cases i with
  | powerOnReset edge =>
    cases edge with
    | held => rfl
    | released levels => exact absurd rfl (hreset levels)
  | setLine c p f => exact absurd rfl (hset c p f)
  | ctrlResetAsserted => exact hentry
  | restart _ => exact hentry
  | setZone _ zone f =>
    change (s.setZoneMap zone f).2.tuner.window = s.tuner.window
    obtain hsame | ⟨z, level, enabled, band, -, -, hwrite⟩ := s.setZoneMap_cases zone f
    · rw [hsame]
    · simp [hwrite, State.writeZone, State.placePointer_window]
  | modeLeaveService _ =>
    simp only [effect, State.answering, State.leaveService]
    repeat' split
    all_goals rfl
  | tuneAll _ =>
    simp only [effect, State.answering, State.startTuneAll]
    repeat' split
    all_goals rfl
  | roundNotice =>
    simp only [effect, State.takeNotice, State.actOnNotice]
    repeat' split
    all_goals rfl
  | tuneOutcome z =>
    simp only [effect, State.takeOutcome]
    split
    · rfl
    · exact State.actOnOutcome_window _ z _
  | _ => simp [touched] at htouch

theorem ParametersInRange.of_same {s t : State} (hlimit : t.feeder.feederLimit = s.feeder.feederLimit)
    (hsettings : t.settings = s.settings) (hwindow : t.tuner.window = s.tuner.window)
    (hs : ParametersInRange s) : ParametersInRange t := by
  simp only [State.settings, Prod.mk.injEq] at hsettings
  obtain ⟨hcadence, hqueue, hamb, hdelay, htimeout⟩ := hsettings
  rwa [ParametersInRange, hlimit, hcadence, hqueue, hamb, hdelay, htimeout, hwindow]

theorem powerOn_parameters (levels : Levels) (pending : List Instr) :
    ParametersInRange (State.powerOn levels pending) := by
  simp [ParametersInRange, State.powerOn, Arbiter.reset, LineSequencer.reset, Tuner.reset]

/-- A stored part is the clamped value of a present part, or stands as it was (R162). -/
theorem ite_mem {lo hi new old : Nat} (b : Bool) (hnew : lo ≤ new ∧ new ≤ hi)
    (hold : lo ≤ old ∧ old ≤ hi) :
    lo ≤ (if b then new else old) ∧ (if b then new else old) ≤ hi := by
  cases b
  · exact hold
  · exact hnew

theorem newParameters_inRange (parts : Nat) (f : LineFields) {s : State}
    (hs : ParametersInRange s) :
    ParametersInRange (s.storeParameters (newParameters parts f s.parameters)) := by
  obtain ⟨hlimit, hcadence, hcadence', hqueue, hamb, hdelay, htimeout, htimeout', hwindow,
    hwindow'⟩ := hs
  have htuning : 300 ≤ windowRounds f.tuningWindow ∧ windowRounds f.tuningWindow ≤ 18000 := by
    have h := clampNat_mem (lo := 60) (hi := 3600) (by decide) f.tuningWindow
    unfold windowRounds
    omega
  have hstored : ∀ p : LineParameters, (s.storeParameters p).feeder.feederLimit = p.feederLimit ∧
      (s.storeParameters p).settings =
        (p.nominalCadence, p.queueLow, p.tAmb, p.holdDelay, p.transferTimeout) ∧
      (s.storeParameters p).tuner.window = p.tuningWindow := fun p => by
    simp [State.storeParameters, State.settings]
  obtain ⟨hfeeder, hsettings, htuner⟩ := hstored (newParameters parts f s.parameters)
  simp only [State.settings, Prod.mk.injEq] at hsettings
  obtain ⟨hline₁, hline₂, hline₃, hline₄, hline₅⟩ := hsettings
  rw [ParametersInRange, hfeeder, hline₁, hline₂, hline₃, hline₄, hline₅, htuner]
  refine ⟨?_, ?_⟩
  · simp only [newParameters]
    split
    · exact .inr (clampNat_mem (by decide) f.feederLimit)
    · exact hlimit
  have hcad := ite_mem (hasPart parts 1) (clampNat_mem (lo := 1) (hi := 3000) (by decide)
    f.nominalCadence) ⟨hcadence, hcadence'⟩
  have hout := ite_mem (hasPart parts 5) (clampNat_mem (lo := 1000) (hi := 10000) (by decide)
    f.transferTimeout) ⟨htimeout, htimeout'⟩
  have hage := ite_mem (hasPart parts 6) htuning ⟨hwindow, hwindow'⟩
  exact ⟨hcad.1, hcad.2,
    (ite_mem (lo := 0) (hasPart parts 2) ⟨Nat.zero_le _, Nat.min_le_left 8 f.queueLow⟩
      ⟨Nat.zero_le _, hqueue⟩).2,
    (ite_mem (lo := 0) (hasPart parts 3) ⟨Nat.zero_le _, Nat.min_le_left 600 f.tAmb⟩
      ⟨Nat.zero_le _, hamb⟩).2,
    (ite_mem (lo := 0) (hasPart parts 4) ⟨Nat.zero_le _, Nat.min_le_left 60000 f.holdDelay⟩
      ⟨Nat.zero_le _, hdelay⟩).2, hout.1, hout.2, hage.1, hage.2⟩

theorem parametersInRange_reads : Reads ParametersInRange [.feeder, .line, .tuner] := by
  intro s t hsame hs
  have hfeeder : t.feeder = s.feeder := hsame .feeder (by simp)
  have hline : t.line = s.line := hsame .line (by simp)
  have htuner : t.tuner = s.tuner := hsame .tuner (by simp)
  rwa [ParametersInRange, hfeeder, hline, htuner]

theorem effect_parameters {i : Instr} {s : State} (h : ParametersInRange s) :
    ParametersInRange (effect i s) := by
  by_cases hreset : ∃ levels, i = .powerOnReset (.released levels)
  · obtain ⟨levels, rfl⟩ := hreset
    have hpower := powerOn_parameters levels s.pending
    simp only [effect, State.releasePowerOn]
    split
    · exact hpower.of_same rfl rfl rfl
    · exact hpower
  by_cases hline : ∃ c p f, i = .setLine c p f
  · obtain ⟨c, p, f, rfl⟩ := hline
    refine parametersInRange_reads.answering (act := fun s => s.setLine p f) (by simp) ?_
    simp only [State.setLine]
    repeat' split
    · exact h
    · exact h
    · exact newParameters_inRange p f h
  have hreset := not_exists.mp hreset
  have hline : ∀ c p f, i ≠ .setLine c p f := by simpa using hline
  exact h.of_same (effect_feederLimit i s hline hreset) (effect_settings i s hline hreset)
    (effect_window i s hline hreset)

/-- Settles O57: each range by the commands that write its quantities; records keep theirs by
`PoolMoved.keeps_temps`, channels by `ZonesMoved.keeps_meters`. -/
theorem rangesKeptByEveryStep : Obligations.RangesKeptByEveryStep := by
  unfold Obligations.RangesKeptByEveryStep
  rintro s t h ⟨htemps, hbias, hmeters, hparameters⟩
  refine ⟨?_, ?_, ?_, ?_⟩
  · exact step_keeps tempsBounded_reads (by simp) (fun i _ u hu => effect_temps hu)
      (fun u hu => hu) h htemps
  · exact step_keeps biasBounded_reads (by simp) (fun i _ u hu => effect_bias hu)
      (fun u hu => hu) h hbias
  · exact step_keeps metersBounded_reads (by simp) (fun i _ u hu => effect_meters hu)
      (fun u hu => (u.elapse_moves 1).keeps_meters hu) h hmeters
  · exact step_keeps parametersInRange_reads (by simp) (fun i _ u hu => effect_parameters hu)
      (fun u hu => hu) h hparameters

end Sys2Proof.Machine
end

section
/-! PROOFS. Tags stay distinct, user counts agree with the live records, and recipes in use stay valid
(R7, R29, R30). -/

namespace Sys2Proof.Machine

/-! ## Lists of records with distinct tags -/

theorem TagsDistinct.of_map {s t : State} (h : TagsDistinct s) (f : BilletRecord → BilletRecord)
    (hf : ∀ r, (f r).tag = r.tag) (hrecords : t.pool.records = s.pool.records.map f) :
    TagsDistinct t := by
  obtain ⟨hdistinct, hrange⟩ := h
  have htags : t.pool.records.map BilletRecord.tag = s.pool.records.map BilletRecord.tag := by
    rw [hrecords, List.map_map]
    exact List.map_congr_left fun r _ => hf r
  refine ⟨by rwa [htags], fun r' hr' => ?_⟩
  rw [hrecords] at hr'
  obtain ⟨r, hr, rfl⟩ := List.mem_map.mp hr'
  rw [hf r]
  exact hrange r hr

/-- A record isolated among records with distinct tags: no other carries its tag. -/
theorem isolate_of_distinct {records : List BilletRecord} {r : BilletRecord}
    (hdistinct : (records.map BilletRecord.tag).Nodup) (hr : r ∈ records) :
    ∃ a b : List BilletRecord, records = a ++ r :: b ∧ ∀ x ∈ a ++ b, x.tag ≠ r.tag := by
  obtain ⟨a, b, rfl⟩ := List.append_of_mem hr
  refine ⟨a, b, rfl, fun x hx heq => ?_⟩
  rw [List.map_append, List.map_cons, List.nodup_middle, List.nodup_cons, ← List.map_append] at hdistinct
  exact hdistinct.1 (heq ▸ List.mem_map_of_mem hx)

/-- Without the one record of its tag, the others stand. -/
theorem filter_isolated {a b : List BilletRecord} {r : BilletRecord}
    (h : ∀ x ∈ a ++ b, x.tag ≠ r.tag) :
    ((a ++ r :: b).filter fun x => x.tag != r.tag) = a ++ b := by
  have hall : ∀ l : List BilletRecord, (∀ x ∈ l, x.tag ≠ r.tag) →
      (l.filter fun x => x.tag != r.tag) = l := fun l hl =>
    List.filter_eq_self.mpr fun x hx => bne_iff_ne.mpr (hl x hx)
  rw [List.filter_append, List.filter_cons_of_neg (by simp),
    hall a fun x hx => h x (List.mem_append_left b hx),
    hall b fun x hx => h x (List.mem_append_right a hx)]

/-- A change of the one record of its tag leaves the others. -/
theorem map_isolated {a b : List BilletRecord} {r : BilletRecord}
    (h : ∀ x ∈ a ++ b, x.tag ≠ r.tag) (f : BilletRecord → BilletRecord) :
    ((a ++ r :: b).map fun x => if x.tag = r.tag then f x else x) = a ++ f r :: b := by
  have hall : ∀ l : List BilletRecord, (∀ x ∈ l, x.tag ≠ r.tag) →
      (l.map fun x => if x.tag = r.tag then f x else x) = l := fun l hl =>
    (List.map_congr_left fun x hx => if_neg (hl x hx)).trans (List.map_id' l)
  rw [List.map_append, List.map_cons, if_pos rfl,
    hall a fun x hx => h x (List.mem_append_left b hx),
    hall b fun x hx => h x (List.mem_append_right a hx)]

/-- The live records that name `k`, one record taken apart. -/
theorem naming_isolated (k : RecipeId) (a b : List BilletRecord) (r : BilletRecord) :
    ((a ++ r :: b).filter fun x => x.recipe == k).length =
      ((a ++ b).filter fun x => x.recipe == k).length + if r.recipe = k then 1 else 0 := by
  by_cases hk : r.recipe = k
  · simp only [hk, List.filter_append, beq_self_eq_true, List.filter_cons_of_pos, List.length_append,
      List.length_cons, if_pos]
    omega
  · simp [hk]

/-! ## The ways a command changes records and recipes -/

/-- Records that keep tag and recipe, and recipes that keep their users and stay valid in use. -/
theorem RecipesTracked.of_map {s t : State} (h : RecipesTracked s) (f : BilletRecord → BilletRecord)
    (hf : ∀ r, (f r).tag = r.tag ∧ (f r).recipe = r.recipe)
    (hrecords : t.pool.records = s.pool.records.map f)
    (hrecipes : ∀ k : RecipeId, t.recipes[k].users = s.recipes[k].users ∧
      (0 < s.recipes[k].users → s.recipes[k].valid = true → t.recipes[k].valid = true)) :
    RecipesTracked t := by
  obtain ⟨htags, hcounted, hvalid⟩ := h
  have hnaming : ∀ k, t.recordsNaming k = s.recordsNaming k := by
    intro k
    have hcomp : (fun r : BilletRecord => r.recipe == k) ∘ f = fun r => r.recipe == k :=
      funext fun r => by simp [(hf r).2]
    rw [State.recordsNaming, hrecords, List.filter_map, List.length_map, hcomp, State.recordsNaming]
  refine ⟨htags.of_map f (fun r => (hf r).1) hrecords, fun k => ?_, fun k hk => ?_⟩
  · rw [(hrecipes k).1, hcounted k, hnaming k]
  · rw [(hrecipes k).1] at hk
    exact (hrecipes k).2 hk (hvalid k hk)

theorem RecipesTracked.of_recipes {s t : State} (h : RecipesTracked s)
    (hrecords : t.pool.records = s.pool.records)
    (hrecipes : ∀ k : RecipeId, t.recipes[k].users = s.recipes[k].users ∧
      (0 < s.recipes[k].users → s.recipes[k].valid = true → t.recipes[k].valid = true)) :
    RecipesTracked t :=
  h.of_map id (fun _ => ⟨rfl, rfl⟩) (by rw [hrecords, List.map_id]) hrecipes

theorem recipesTracked_reads : Reads RecipesTracked [.pool, .recipes] := by
  intro s t hsame hs
  have hpool : t.pool = s.pool := hsame .pool (by simp)
  have hrecipes : t.recipes = s.recipes := hsame .recipes (by simp)
  exact hs.of_recipes (by rw [hpool]) fun k => by simp [hrecipes]

/-- The users of a recipe after one recipe's entry is changed. -/
theorem recipes_set_users (recipes : Vector Recipe 16) (j k : RecipeId) (e : Recipe) :
    (recipes.set k e)[j].users = if j = k then e.users else recipes[j].users := by
  split
  · rename_i h
    rw [h, recipes_set_same]
  · rw [recipes_set_other _ ‹_›]

theorem recipes_set_valid (recipes : Vector Recipe 16) (j k : RecipeId) (e : Recipe) :
    (recipes.set k e)[j].valid = if j = k then e.valid else recipes[j].valid := by
  split
  · rename_i h
    rw [h, recipes_set_same]
  · rw [recipes_set_other _ ‹_›]

theorem State.retire_tracked {s : State} (h : RecipesTracked s) (tag : Nat) (o : BilletOutcome) :
    RecipesTracked (s.retire tag o) := by
  obtain ⟨-, hnone⟩ | ⟨r, hlookup, hrecords, hrecipes⟩ := s.retire_cases tag o
  · rwa [hnone]
  obtain ⟨hr, rfl, -⟩ := State.lookup_some hlookup
  obtain ⟨⟨hdistinct, hrange⟩, hcounted, hvalid⟩ := h
  obtain ⟨a, b, hsplit, hothers⟩ := isolate_of_distinct hdistinct hr
  have hsub : (s.retire r.tag o).pool.records.Sublist s.pool.records :=
    hrecords ▸ List.filter_sublist
  have hcount : ∀ k, s.recipes[k].users = (s.retire r.tag o).recordsNaming k +
      if r.recipe = k then 1 else 0 := by
    intro k
    rw [hcounted k, State.recordsNaming, State.recordsNaming, hrecords, hsplit,
      filter_isolated hothers, naming_isolated]
  refine ⟨⟨hdistinct.sublist (hsub.map _), fun x hx => hrange x (hsub.mem hx)⟩, fun k => ?_,
    fun k hk => ?_⟩
  · rw [hrecipes, recipes_set_users]
    have hk := hcount k
    split
    · rename_i heq
      subst heq
      rw [if_pos rfl] at hk
      change s.recipes[r.recipe].users - 1 = _
      omega
    · rename_i hne
      rw [if_neg (Ne.symm hne)] at hk
      exact hk
  · rw [hrecipes, recipes_set_users] at hk
    rw [hrecipes, recipes_set_valid]
    split
    · rename_i heq
      subst heq
      rw [if_pos rfl] at hk
      exact hvalid r.recipe (Nat.lt_of_lt_of_le hk (Nat.sub_le _ _))
    · rw [if_neg ‹_›] at hk
      exact hvalid k hk

theorem PoolMoved.keeps_tracked {s t : State} {atExit : Bool} (h : PoolMoved atExit s t)
    (hs : RecipesTracked s) : RecipesTracked t := by
  induction h with
  | refl => exact hs
  | tail _ hmove ih =>
    cases hmove with
    | map f hf hrecords hrecipes =>
      refine ih.of_map f (fun r => ?_) hrecords fun k => by simp [hrecipes]
      obtain ⟨htag, -, -, hrecipe, -⟩ := hf r
      exact ⟨htag, hrecipe⟩
    | retire tag o hrecords hrecipes =>
      exact (State.retire_tracked ih tag o).of_recipes hrecords fun k => by simp [hrecipes]

theorem State.validRecipe_valid {s : State} {n : Nat} {k : RecipeId} (h : s.validRecipe n = some k) :
    s.recipes[k].valid = true :=
  (Option.filter_eq_some_iff.mp h).2

theorem State.lookup_eq_none_iff {s : State} {tag : Nat} (htag : tag ≠ 0) :
    s.lookup tag = none ↔ ∀ r ∈ s.pool.records, r.tag ≠ tag := by
  simp [State.lookup, htag]

/-- A new record under a free tag, of a valid recipe, counted as its user (R12, R29). -/
theorem State.createRecord_tracked {s : State} (h : RecipesTracked s) {tag : Nat} {k : RecipeId}
    (mass initial : Nat) (htag : 1 ≤ tag ∧ tag ≤ 65535) (hfree : s.lookup tag = none)
    (hk : s.recipes[k].valid = true) : RecipesTracked (s.createRecord tag k mass initial) := by
  obtain ⟨⟨hdistinct, hrange⟩, hcounted, hvalid⟩ := h
  have hfresh := (State.lookup_eq_none_iff (Nat.ne_of_gt htag.1)).mp hfree
  have hrecords : (s.createRecord tag k mass initial).pool.records =
      s.pool.records ++ [newRecord tag (nextLoad s.pool.loadCounter) k mass initial] := rfl
  have hrecipes : (s.createRecord tag k mass initial).recipes =
      s.recipes.set k { s.recipes[k] with users := s.recipes[k].users + 1 } := rfl
  refine ⟨⟨?_, fun r hr => ?_⟩, fun j => ?_, fun j hj => ?_⟩
  · rw [hrecords, List.map_append, List.map_singleton]
    refine List.nodup_append.mpr ⟨hdistinct, List.nodup_singleton _, fun x hx y hy => ?_⟩
    obtain ⟨r, hr, rfl⟩ := List.mem_map.mp hx
    rw [List.mem_singleton.mp hy]
    exact hfresh r hr
  · rw [hrecords] at hr
    obtain hr | hr := List.mem_append.mp hr
    · exact hrange r hr
    · rwa [List.mem_singleton.mp hr]
  · have hnaming := naming_isolated j s.pool.records []
      (newRecord tag (nextLoad s.pool.loadCounter) k mass initial)
    rw [List.append_nil] at hnaming
    rw [hrecipes, recipes_set_users, State.recordsNaming, hrecords, hnaming]
    change (if j = k then s.recipes[k].users + 1 else s.recipes[j].users) =
      s.recordsNaming j + if k = j then 1 else 0
    rw [← hcounted j]
    split
    · rename_i heq
      rw [heq, if_pos rfl]
    · rw [if_neg (Ne.symm ‹_›), Nat.add_zero]
  · rw [hrecipes, recipes_set_users] at hj
    rw [hrecipes, recipes_set_valid]
    split
    · exact hk
    · rw [if_neg ‹_›] at hj
      exact hvalid j hj

/-- The recipes after one record changed its recipe (R29). -/
theorem State.moveUser_recipe (s : State) (old new j : RecipeId) :
    (s.moveUser old new).recipes[j].valid = s.recipes[j].valid ∧
      (s.moveUser old new).recipes[j].users =
        if old = new then s.recipes[j].users
        else if j = new then s.recipes[j].users + 1
        else if j = old then s.recipes[j].users - 1
        else s.recipes[j].users := by
  unfold State.moveUser
  by_cases hsame : old = new
  · rw [if_pos hsame, if_pos hsame]
    exact ⟨rfl, rfl⟩
  rw [if_neg hsame, if_neg hsame]
  simp only [State.modifyRecipe, recipes_set_users, recipes_set_valid]
  by_cases hnew : j = new
  · subst hnew
    simp [Ne.symm hsame]
  · by_cases hold : j = old
    · subst hold
      simp [hnew]
    · simp [hnew, hold]

/-- An amended record keeps its tag, and its users are counted anew (R17, R29). -/
theorem State.applyAmend_tracked {s : State} (h : RecipesTracked s) {r : BilletRecord}
    (hr : r ∈ s.pool.records) (parts : Nat) (offset : Int) {k : Option RecipeId}
    (hk : ∀ j, k = some j → s.recipes[j].valid = true) :
    RecipesTracked (s.applyAmend r parts offset k) := by
  obtain ⟨⟨hdistinct, hrange⟩, hcounted, hvalid⟩ := h
  obtain ⟨a, b, hsplit, hothers⟩ := isolate_of_distinct hdistinct hr
  have hrecords : (s.applyAmend r parts offset k).pool.records =
      a ++ amendRecord parts offset k r :: b := by
    rw [State.applyAmend_records, hsplit, map_isolated hothers]
  have hrecipe : (amendRecord parts offset k r).recipe = k.getD r.recipe := rfl
  have hrecipes := s.applyAmend_recipes r parts offset k
  have hnew : s.recipes[k.getD r.recipe].valid = true := by
    cases k with
    | some j => exact hk j rfl
    | none =>
      refine hvalid r.recipe (hcounted r.recipe ▸ ?_)
      exact List.length_pos_of_mem (List.mem_filter.mpr ⟨hr, beq_self_eq_true _⟩)
  have hbefore : ∀ j, s.recipes[j].users =
      ((a ++ b).filter fun x => x.recipe == j).length + if r.recipe = j then 1 else 0 := by
    intro j
    rw [hcounted j, State.recordsNaming, hsplit, naming_isolated]
  refine ⟨⟨?_, fun x hx => ?_⟩, fun j => ?_, fun j hj => ?_⟩
  · have htags : (a ++ amendRecord parts offset k r :: b).map BilletRecord.tag =
        s.pool.records.map BilletRecord.tag := by
      rw [hsplit, List.map_append, List.map_append]
      rfl
    rwa [hrecords, htags]
  · rw [hrecords] at hx
    rw [hsplit] at hrange
    simp only [List.mem_append, List.mem_cons] at hx hrange
    obtain hx | rfl | hx := hx
    · exact hrange x (.inl hx)
    · exact hrange r (.inr (.inl rfl))
    · exact hrange x (.inr (.inr hx))
  · have hj := hbefore j
    rw [hrecipes, (s.moveUser_recipe _ _ j).2, State.recordsNaming, hrecords, naming_isolated, hrecipe]
    generalize s.recipes[j].users = users at hj ⊢
    generalize ((a ++ b).filter fun x => x.recipe == j).length = others at hj ⊢
    grind
  · rw [hrecipes, (s.moveUser_recipe _ _ j).1]
    rw [hrecipes, (s.moveUser_recipe _ _ j).2] at hj
    by_cases hnewj : j = k.getD r.recipe
    · rwa [hnewj]
    · refine hvalid j ?_
      split_ifs at hj <;> omega

theorem State.amendBillet_tracked {s : State} (h : RecipesTracked s) (tag parts : Nat) (offset : Int)
    (recipe : Nat) : RecipesTracked (s.amendBillet tag parts offset recipe).2 := by
  obtain hsame | ⟨r, k, hlookup, hk, happly⟩ := s.amendBillet_cases tag parts offset recipe
  · rwa [hsame]
  · rw [happly]
    refine State.applyAmend_tracked h (State.lookup_some hlookup).1 parts offset fun j hj => ?_
    obtain rfl | ⟨-, i, rfl, hi⟩ := hk
    · cases hj
    · cases hj
      exact State.validRecipe_valid hi

theorem State.load_tracked {s : State} (h : RecipesTracked s) (tag recipe mass initial : Nat) :
    RecipesTracked (s.load tag recipe mass initial).2 := by
  obtain hsame | ⟨k, htag, hk, hfree, -, hcreate⟩ := s.load_cases tag recipe mass initial
  · rwa [hsame]
  · rw [hcreate]
    exact State.createRecord_tracked h mass initial htag hfree (State.validRecipe_valid hk)

/-- A change of one recipe that keeps its users and keeps it valid in use. -/
theorem State.modifyRecipe_tracked {s : State} (h : RecipesTracked s) (k : RecipeId)
    {f : Recipe → Recipe} (husers : (f s.recipes[k]).users = s.recipes[k].users)
    (hvalid : 0 < s.recipes[k].users → s.recipes[k].valid = true → (f s.recipes[k]).valid = true) :
    RecipesTracked (s.modifyRecipe k f) := by
  refine h.of_recipes rfl fun j => ?_
  simp only [State.modifyRecipe, recipes_set_users, recipes_set_valid]
  by_cases hj : j = k
  · subst hj
    simp only [if_pos]
    exact ⟨husers, hvalid⟩
  · simp [hj]

theorem State.writeRecipe_tracked {s : State} (h : RecipesTracked s) (recipe validity : Nat)
    (f : RecipeFields) : RecipesTracked (s.writeRecipe recipe validity f).2 := by
  simp only [State.writeRecipe]
  split
  · exact h
  · exact h
  · split
    · exact h
    · rename_i hfree
      refine State.modifyRecipe_tracked h _ rfl fun hused => ?_
      exact absurd (decide_eq_true hused) hfree
  · repeat' split
    · exact h
    · exact State.modifyRecipe_tracked h _ rfl fun _ _ => rfl
    · exact h

theorem State.resetBias_tracked {s : State} (h : RecipesTracked s) (selection : Nat) :
    RecipesTracked (s.resetBias selection).2 := by
  unfold State.resetBias
  split
  · exact h.of_recipes rfl fun k => by simp [accept, Recipe.forget]
  split
  · exact h
  · exact State.modifyRecipe_tracked h _ rfl fun _ hv => hv

theorem State.takeUpdate_tracked {s : State} (h : RecipesTracked s) : RecipesTracked s.takeUpdate := by
  simp only [State.takeUpdate]
  split
  · exact h
  split
  · exact State.modifyRecipe_tracked (s := { s with mail := { s.mail with updates := _ } }) h _ rfl
      fun _ hv => hv
  · exact h

theorem effect_tracked {i : Instr} {s : State} (h : RecipesTracked s) :
    RecipesTracked (effect i s) := by
  cases hwrites : writesPool i with
  | false => exact (effect_poolMoves (atExit := false) hwrites nofun s).keeps_tracked h
  | true =>
    have answering : ∀ {act : State → Response × State}, RecipesTracked (act s).2 →
        RecipesTracked (State.answering act s) := recipesTracked_reads.answering (by simp)
    cases i with
    | powerOnReset edge =>
      cases edge with
      | held => cases hwrites
      | released levels =>
        obtain ⟨hrecords, hrecipes⟩ := s.releasePowerOn_pool levels
        simp only [effect]
        refine ⟨by simp [TagsDistinct, hrecords], fun k => ?_, fun k => ?_⟩
        · simp [State.recordsNaming, hrecords, hrecipes, Recipe.reset]
        · simp [hrecipes, Recipe.reset]
    | loadBillet _ tag recipe mass initial =>
      exact answering (act := fun s => s.load tag recipe mass initial)
        (State.load_tracked h tag recipe mass initial)
    | amendBillet _ tag parts offset recipe =>
      exact answering (act := fun s => s.amendBillet tag parts offset recipe)
        (State.amendBillet_tracked h tag parts offset recipe)
    | writeRecipe _ recipe validity f =>
      exact answering (act := fun s => s.writeRecipe recipe validity f)
        (State.writeRecipe_tracked h recipe validity f)
    | resetBias _ selection =>
      exact answering (act := fun s => s.resetBias selection) (State.resetBias_tracked h selection)
    | adaptationUpdate => exact State.takeUpdate_tracked h
    | _ => cases hwrites

/-- Settles O56: each command keeps the bookkeeping (`effect_tracked`); records that are not created or
amended stay the same billets or are retired (`PoolMoved.keeps_tracked`). -/
theorem recipeUseKept : Obligations.RecipeUseKept := by
  unfold Obligations.RecipeUseKept
  intro s t h hs
  exact step_keeps recipesTracked_reads (by simp) (fun i _ u hu => effect_tracked hu)
    (fun u hu => hu) h hs

end Sys2Proof.Machine
end

section
/-! PROOFS. The billets' bookkeeping: each live record stands in exactly one place (R7, R9, R59, R132,
R149). -/

namespace Sys2Proof.Machine

/-! ## Records that keep their places -/

/-- Tags, places and the references to them stand in `t` as in `s`. -/
def Placed (s t : State) : Prop :=
  (∃ f : BilletRecord → BilletRecord, (∀ r, (f r).tag = r.tag ∧ (f r).place = r.place) ∧
    t.pool.records = s.pool.records.map f) ∧
  t.pool.queue = s.pool.queue ∧ t.row.positions = s.row.positions ∧ t.row.length = s.row.length ∧
    t.exit.slot = s.exit.slot

theorem Placed.of_records {s t : State} (hrecords : t.pool.records = s.pool.records)
    (hqueue : t.pool.queue = s.pool.queue) (hpositions : t.row.positions = s.row.positions)
    (hlength : t.row.length = s.row.length) (hslot : t.exit.slot = s.exit.slot) : Placed s t :=
  ⟨⟨id, fun _ => ⟨rfl, rfl⟩, by rw [hrecords, List.map_id]⟩, hqueue, hpositions, hlength, hslot⟩

theorem Placed.trans {s t u : State} (h : Placed s t) (h' : Placed t u) : Placed s u := by
  obtain ⟨⟨f, hf, hrecords⟩, hqueue, hpositions, hlength, hslot⟩ := h
  obtain ⟨⟨g, hg, hrecords'⟩, hqueue', hpositions', hlength', hslot'⟩ := h'
  refine ⟨⟨g ∘ f, fun r => ?_, by rw [hrecords', hrecords, List.map_map]⟩, hqueue'.trans hqueue,
    hpositions'.trans hpositions, hlength'.trans hlength, hslot'.trans hslot⟩
  exact ⟨(hg (f r)).1.trans (hf r).1, (hg (f r)).2.trans (hf r).2⟩

theorem Placed.of_frame {l : List Block} {s t : State} (h : UnchangedBut l s t) (hpool : .pool ∉ l)
    (hrow : .row ∉ l) (hexit : .exit ∉ l) : Placed s t := by
  have hpool : t.pool = s.pool := h .pool hpool
  have hrow : t.row = s.row := h .row hrow
  have hexit : t.exit = s.exit := h .exit hexit
  exact .of_records (by rw [hpool]) (by rw [hpool]) (by rw [hrow]) (by rw [hrow]) (by rw [hexit])

theorem Placed.of_map {s t : State} (f : BilletRecord → BilletRecord)
    (hf : ∀ r, (f r).tag = r.tag ∧ (f r).place = r.place)
    (hpool : t.pool = { s.pool with records := s.pool.records.map f }) (hrow : t.row = s.row)
    (hexit : t.exit = s.exit) : Placed s t :=
  ⟨⟨f, hf, by rw [hpool]⟩, by rw [hpool], by rw [hrow], by rw [hrow], by rw [hexit]⟩

theorem Placed.modifyRecord (s : State) (tag : Nat) {f : BilletRecord → BilletRecord}
    (hf : ∀ r, (f r).tag = r.tag ∧ (f r).place = r.place) : Placed s (s.modifyRecord tag f) := by
  refine .of_map (fun r => if r.tag = tag then f r else r) (fun r => ?_) rfl rfl rfl
  split
  · exact hf r
  · exact ⟨rfl, rfl⟩

theorem Placed.keeps_tags {s t : State} (h : Placed s t) (hs : TagsDistinct s) : TagsDistinct t := by
  obtain ⟨⟨f, hf, hrecords⟩, -⟩ := h
  exact hs.of_map f (fun r => (hf r).1) hrecords

theorem Placed.tagAt_eq {s t : State} (h : Placed s t) (p : Nat) :
    t.row.tagAt p = s.row.tagAt p := by
  rw [RowTracker.tagAt, h.2.2.1, RowTracker.tagAt]

theorem Placed.keeps_places {s t : State} (h : Placed s t) (hs : PlacesAgree s) : PlacesAgree t := by
  have htagAt := h.tagAt_eq
  obtain ⟨⟨f, hf, hrecords⟩, hqueue, hpositions, hlength, hslot⟩ := h
  obtain ⟨hplaces, hinQueue, hinRow, hinSlot, hrest⟩ := hs
  have hlive : ∀ tag, (∃ r ∈ s.pool.records, r.tag = tag) → ∃ r ∈ t.pool.records, r.tag = tag := by
    rintro tag ⟨r, hr, rfl⟩
    exact ⟨f r, by rw [hrecords]; exact List.mem_map_of_mem hr, (hf r).1⟩
  refine ⟨fun r' hr' => ?_, fun tag htag => hlive tag (hinQueue tag (hqueue ▸ htag)),
    fun p tag htag => hlive tag (hinRow p tag (htagAt p ▸ htag)),
    fun tag htag => hlive tag (hinSlot tag (hslot ▸ htag)), ?_⟩
  · rw [hrecords] at hr'
    obtain ⟨r, hr, rfl⟩ := List.mem_map.mp hr'
    simp only [(hf r).1, (hf r).2, hqueue, htagAt, hslot]
    exact hplaces r hr
  · simpa only [hqueue, hlength, htagAt] using hrest

/-- The row and the exit hold no record. -/
def State.NoneInLine (s : State) : Prop := s.row.occupied = false ∧ s.exit.slot = none

theorem Placed.keeps_noneInLine {s t : State} (h : Placed s t) (hs : s.NoneInLine) :
    t.NoneInLine := by
  obtain ⟨-, -, hpositions, -, hslot⟩ := h
  exact ⟨by rw [RowTracker.occupied, hpositions]; exact hs.1, hslot.trans hs.2⟩

theorem State.lineEmpty_noneInLine {s : State} (hfit : StationFits s) (h : s.lineEmpty = true) :
    s.NoneInLine := by
  simp only [State.lineEmpty, Bool.and_eq_true, Bool.not_eq_true', decide_eq_true_eq] at h
  exact ⟨h.1, hfit.1.mpr h.2⟩

/-- The bookkeeping is kept where places stand, the station's fields fit, and an idle mode is entered
from an idle mode or an empty line only. -/
theorem BilletsTracked.of_placed {s t : State} (h : BilletsTracked s) (hplaced : Placed s t)
    (hfit : StationFits t)
    (hmode : t.line.mode.idle = true → s.line.mode.idle = true ∨ s.lineEmpty = true) :
    BilletsTracked t := by
  obtain ⟨htags, hfit', hidle, hplaces⟩ := h
  refine ⟨hplaced.keeps_tags htags, hfit, fun ht => ?_, hplaced.keeps_places hplaces⟩
  obtain hmode | hempty := hmode ht
  · exact hplaced.keeps_noneInLine (hidle hmode)
  · exact hplaced.keeps_noneInLine (State.lineEmpty_noneInLine hfit' hempty)

theorem StationFits.of_exit {s t : State} (h : StationFits s) (hexit : t.exit = s.exit) :
    StationFits t := by
  rwa [StationFits, hexit]

theorem billetsTracked_reads : Reads BilletsTracked [.pool, .row, .exit, .line] := by
  intro s t hsame hs
  have hpool : t.pool = s.pool := hsame .pool (by simp)
  have hrow : t.row = s.row := hsame .row (by simp)
  have hexit : t.exit = s.exit := hsame .exit (by simp)
  have hline : t.line = s.line := hsame .line (by simp)
  exact hs.of_placed (.of_records (by rw [hpool]) (by rw [hpool]) (by rw [hrow]) (by rw [hrow])
    (by rw [hexit])) (hs.2.1.of_exit hexit) (fun h => .inl (hline ▸ h))

/-! ## The exit station -/

section
variable {s : State}

theorem State.enterRejecting_placed (s : State) (tag : Nat) (o : BilletOutcome) :
    Placed s (s.enterRejecting tag o) :=
  .trans (.modifyRecord s tag (f := fun r => { r with outcome := some o }) fun _ => ⟨rfl, rfl⟩)
    (.of_records rfl rfl rfl rfl rfl)

theorem State.enterRejecting_fits (tag : Nat) (o : BilletOutcome) (hslot : s.exit.slot ≠ none)
    (htakes : s.exit.pendingTakes ≤ 2) : StationFits (s.enterRejecting tag o) := by
  simp [StationFits, State.enterRejecting, State.raise, StationState.transferring, hslot, htakes,
    State.modifyRecord]

theorem State.serveTake_placed (s : State) : Placed s s.serveTake := by
  obtain h | ⟨-, -, r, -, ⟨o, -, h⟩ | ⟨-, h⟩⟩ := s.serveTake_cases <;> rw [h]
  · exact .of_records rfl rfl rfl rfl rfl
  · exact s.enterRejecting_placed r.tag o
  · exact .of_records rfl rfl rfl rfl rfl

theorem slot_of_bind {β : Type} {slot : Option Nat} {f : Nat → Option β} {r : β}
    (h : slot.bind f = some r) : slot ≠ none := by
  rintro rfl
  cases h

theorem State.serveTake_fits (h : StationFits s) : StationFits s.serveTake := by
  obtain ⟨-, -, hwindow, -, htakes⟩ := id h
  obtain hsame | ⟨hready, -, r, hr, ⟨o, -, hrejects⟩ | ⟨-, hserves⟩⟩ := s.serveTake_cases
  · rwa [hsame]
  · rw [hrejects]
    exact State.enterRejecting_fits r.tag o (slot_of_bind hr) htakes
  · rw [hserves]
    have hnone : s.exit.windowTimer = none := by
      rw [hready] at hwindow
      simpa using hwindow
    exact ⟨by simp [slot_of_bind hr], by simp, by simp [hnone], fun _ => rfl,
      (Nat.sub_le _ _).trans htakes⟩

theorem State.enterReady_placed (s : State) : Placed s s.enterReady := by
  refine .trans ?_ (State.serveTake_placed _)
  exact .of_records rfl rfl rfl rfl rfl

theorem State.enterReady_fits (hslot : s.exit.slot ≠ none) (htakes : s.exit.pendingTakes ≤ 2)
    (htransfer : s.exit.transferTimer = none) : StationFits s.enterReady := by
  refine State.serveTake_fits ?_
  simp [StationFits, hslot, htakes, htransfer]

theorem State.applyResync_placed (s : State) (r : BilletRecord) (measured : Nat) :
    Placed s (s.applyResync r measured) := by
  refine .trans (.modifyRecord s r.tag (f := resync measured) fun _ => ⟨rfl, rfl⟩) ?_
  simp only [State.applyResync]
  split <;> exact .of_records rfl rfl rfl rfl rfl

theorem State.closeWindow_placed (s : State) : Placed s s.closeWindow := by
  simp only [State.closeWindow]
  split
  · exact .of_records rfl rfl rfl rfl rfl
  split
  · exact s.enterRejecting_placed _ _
  split
  · exact (s.applyResync_placed _ _).trans (State.enterRejecting_placed _ _ _)
  · exact (s.applyResync_placed _ _).trans (State.enterReady_placed _)

theorem State.closeWindow_fits (h : StationFits s) (hstate : s.exit.state = .measuring) :
    StationFits s.closeWindow := by
  obtain ⟨-, -, -, htransfer, htakes⟩ := id h
  have hnone : s.exit.transferTimer = none := by
    rw [hstate] at htransfer
    simpa [StationState.transferring] using htransfer
  have hexit : ∀ r measured, (s.applyResync r measured).exit = s.exit := fun r measured =>
    s.applyResync_frame r measured .exit (by simp)
  simp only [State.closeWindow]
  split
  · exact h
  rename_i hr
  split
  · exact State.enterRejecting_fits _ _ (slot_of_bind hr) htakes
  split
  · refine State.enterRejecting_fits _ _ ?_ ?_ <;> rw [hexit]
    · exact slot_of_bind hr
    · exact htakes
  · refine State.enterReady_fits ?_ ?_ ?_ <;> rw [hexit]
    · exact slot_of_bind hr
    · exact htakes
    · exact hnone

/-- An event at the station that keeps every place and the line's mode keeps the bookkeeping when it
keeps the station's fields. -/
theorem BilletsTracked.at_exit {l : List Block} {t : State} (h : BilletsTracked s)
    (hplaced : Placed s t) (hfit : StationFits t) (hframe : UnchangedBut l s t) (hl : .line ∉ l) :
    BilletsTracked t :=
  h.of_placed hplaced hfit fun hidle => .inl (by rwa [← show t.line = s.line from hframe .line hl])

theorem State.closeWindow_tracked (h : BilletsTracked s) (hstate : s.exit.state = .measuring) :
    BilletsTracked s.closeWindow :=
  h.at_exit s.closeWindow_placed (State.closeWindow_fits h.2.1 hstate) s.closeWindow_frame (by simp)

theorem State.takeReading_tracked (h : BilletsTracked s) (value : Nat) (valid : Bool) :
    BilletsTracked (s.takeReading value valid) := by
  have hcount : ∀ e : ExitStation, e.slot = s.exit.slot → StationFits { s with exit := e } →
      BilletsTracked { s with exit := e } := fun e hslot hfit =>
    h.of_placed (.of_records rfl rfl rfl rfl hslot) hfit .inl
  simp only [State.takeReading]
  split
  · rename_i hstate
    have hlisted := hcount { s.exit with readings := s.exit.readings ++ [value] } rfl h.2.1
    split
    · split
      · exact State.closeWindow_tracked hlisted hstate
      · exact hlisted
    · exact hcount _ rfl h.2.1
  · exact hcount _ rfl h.2.1

theorem State.takeStep_tracked (h : BilletsTracked s) : BilletsTracked s.takeStep := by
  have hact : ∀ u : State, BilletsTracked u → ∀ ref, BilletsTracked (u.actOnStep ref) := by
    intro u hu ref
    simp only [State.actOnStep]
    split
    swap
    · exact hu
    rename_i r hready hslot
    obtain ⟨hempty, -, hwindow, htransfer, htakes⟩ := id hu.2.1
    have hholds : u.exit.slot ≠ none := fun hnone => by simp [hempty.mp hnone] at hready
    split
    · refine hu.at_exit (l := [.pool, .exit, .link]) ?_ ?_ ?_ (by simp)
      · refine .trans ?_ (State.enterRejecting_placed _ _ _)
        exact .of_records rfl rfl rfl rfl rfl
      · exact State.enterRejecting_fits _ _ hholds htakes
      · simp [unchangedBut_iff]
    · refine hu.at_exit (l := [.exit]) (.of_records rfl rfl rfl rfl rfl) ?_
        (by simp [unchangedBut_iff]) (by simp)
      exact ⟨hempty, by simp [hready], hwindow, htransfer, htakes⟩
  unfold State.takeStep
  split
  · exact h
  · exact hact _ (billetsTracked_reads.of_frame (l := [.mail]) (by simp [unchangedBut_iff])
      (by simp) h) _

theorem State.takeMark_tracked (h : BilletsTracked s) : BilletsTracked s.takeMark := by
  have hact : ∀ u : State, BilletsTracked u → ∀ ref, BilletsTracked (u.actOnMark ref) := by
    intro u hu ref
    simp only [State.actOnMark]
    split
    swap
    · exact hu
    rename_i r hready hslot
    obtain ⟨hempty, -, -, -, htakes⟩ := id hu.2.1
    have hholds : u.exit.slot ≠ none := fun hnone => by simp [hempty.mp hnone] at hready
    exact hu.at_exit (u.enterRejecting_placed _ _) (State.enterRejecting_fits _ _ hholds htakes)
      (u.enterRejecting_frame _ _) (by simp)
  unfold State.takeMark
  split
  · exact h
  · exact hact _ (billetsTracked_reads.of_frame (l := [.mail]) (by simp [unchangedBut_iff])
      (by simp) h) _

theorem State.serveTake_tracked (h : BilletsTracked s) : BilletsTracked s.serveTake :=
  h.at_exit s.serveTake_placed (State.serveTake_fits h.2.1) s.serveTake_frame (by simp)

theorem State.takeRequest_tracked (h : BilletsTracked s) : BilletsTracked s.takeRequest := by
  obtain ⟨hempty, hwait, hwindow, htransfer, htakes⟩ := id h.2.1
  unfold State.takeRequest
  refine State.serveTake_tracked ?_
  split
  · exact h.of_placed (.of_records rfl rfl rfl rfl rfl)
      ⟨hempty, hwait, hwindow, htransfer, Nat.succ_le_of_lt ‹_›⟩ .inl
  · exact h.of_placed (.of_records rfl rfl rfl rfl rfl) h.2.1 .inl

theorem State.drainTest_tracked (h : BilletsTracked s) : BilletsTracked s.drainTest := by
  obtain hsame | ⟨-, hempty, hstopped⟩ := s.drainTest_eq
  · rwa [hsame]
  · rw [hstopped]
    exact h.of_placed (.of_records rfl rfl rfl rfl rfl) h.2.1 fun _ => .inr hempty

/-! ## Retirement -/

/-- The bookkeeping without one record, whose references have gone with it. -/
theorem BilletsTracked.of_removed {t : State} (h : BilletsTracked s) {r : BilletRecord}
    (hr : r ∈ s.pool.records)
    (hrecords : t.pool.records = s.pool.records.filter fun x => x.tag != r.tag)
    (hrow : t.row = s.row) (hmode : t.line.mode = s.line.mode) (hfit : StationFits t)
    (hqueue : t.pool.queue = s.pool.queue.filter fun x => x != r.tag)
    (hslot : t.exit.slot = s.exit.slot.filter fun x => x != r.tag)
    (hplace : r.place = .queued ∨ r.place = .exit) : BilletsTracked t := by
  obtain ⟨⟨hdistinct, hrange⟩, -, hidle, hplaces, hinQueue, hinRow, hinSlot, hnodup, hlength,
    hrowRest⟩ := h
  have hsub : t.pool.records.Sublist s.pool.records := hrecords ▸ List.filter_sublist
  have hlive : ∀ tag, tag ≠ r.tag → (∃ x ∈ s.pool.records, x.tag = tag) →
      ∃ x ∈ t.pool.records, x.tag = tag := by
    rintro tag hne ⟨x, hx, rfl⟩
    exact ⟨x, by rw [hrecords]; exact List.mem_filter.mpr ⟨hx, bne_iff_ne.mpr hne⟩, rfl⟩
  have hnotInRow : ∀ p, s.row.tagAt p ≠ some r.tag := by
    intro p hp
    have hat := ((hplaces r hr).2.1 p).mpr hp
    obtain hq | he := hplace
    · cases hat.symm.trans hq
    · cases hat.symm.trans he
  refine ⟨⟨hdistinct.sublist (hsub.map _), fun x hx => hrange x (hsub.mem hx)⟩, hfit,
    fun hm => ?_, fun x hx => ?_, fun tag htag => ?_, fun p tag htag => ?_, fun tag htag => ?_, ?_⟩
  · rw [hrow, hslot, (hidle (hmode ▸ hm)).2]
    exact ⟨(hidle (hmode ▸ hm)).1, rfl⟩
  · rw [hrecords] at hx
    obtain ⟨hx, hne⟩ := List.mem_filter.mp hx
    obtain ⟨hq, hp, he⟩ := hplaces x hx
    rw [hqueue, hrow, hslot, List.mem_filter, Option.filter_eq_some_iff]
    exact ⟨hq.trans (and_iff_left hne).symm, hp, he.trans (and_iff_left hne).symm⟩
  · rw [hqueue] at htag
    obtain ⟨htag, hne⟩ := List.mem_filter.mp htag
    exact hlive tag (bne_iff_ne.mp hne) (hinQueue tag htag)
  · rw [hrow] at htag
    exact hlive tag (fun heq => hnotInRow p (heq ▸ htag)) (hinRow p tag htag)
  · rw [hslot] at htag
    obtain ⟨htag, hne⟩ := Option.filter_eq_some_iff.mp htag
    exact hlive tag (bne_iff_ne.mp hne) (hinSlot tag htag)
  · rw [hqueue, hrow]
    exact ⟨hnodup.filter _, (List.length_filter_le _ _).trans hlength, hrowRest⟩

theorem filter_absent {tag : Nat} {l : List Nat} (h : tag ∉ l) :
    (l.filter fun x => x != tag) = l :=
  List.filter_eq_self.mpr fun _ hx => bne_iff_ne.mpr fun heq => h (heq ▸ hx)

theorem State.vacate_tracked (h : BilletsTracked s) (o : BilletOutcome) :
    BilletsTracked (s.vacate o) := by
  obtain ⟨htags, hfit, -, hplaces, -, -, hinSlot, -⟩ := id h
  have hempty : StationFits (s.vacate o) := by
    have htakes : (s.vacate o).exit.pendingTakes = s.exit.pendingTakes := by
      unfold State.vacate
      cases s.exit.slot <;> simp
    refine ⟨by simp [State.vacate], by simp [State.vacate], by simp [State.vacate],
      by simp [State.vacate], htakes.trans_le hfit.2.2.2.2⟩
  cases hslot : s.exit.slot with
  | none =>
    have hvacate : s.vacate o = { s with exit := { s.exit with
        slot := none, state := .empty, waitRounds := none, windowTimer := none,
        transferTimer := none } } := by
      simp only [State.vacate, hslot, Option.map_none, Option.getD_none]
    rw [hvacate] at hempty ⊢
    exact h.of_placed (.of_records rfl rfl rfl rfl hslot.symm) hempty .inl
  | some tag =>
    obtain ⟨r, hr, rfl⟩ := hinSlot tag hslot
    have hplace : r.place = .exit := (hplaces r hr).2.2.mpr hslot
    have hqueued : r.tag ∉ s.pool.queue := fun hmem => by
      cases ((hplaces r hr).1.mpr hmem).symm.trans hplace
    have hvacate := State.vacate_of_slot o hslot (State.lookup_of_mem htags hr)
    refine h.of_removed hr ?_ ?_ ?_ hempty ?_ ?_ (.inr hplace) <;> rw [hvacate]
    · exact (filter_absent hqueued).symm
    · rw [hslot, Option.filter_some, bne_self_eq_false]
      rfl

theorem State.endTransfer_tracked (h : BilletsTracked s) (o : BilletOutcome) :
    BilletsTracked (s.endTransfer o) :=
  State.drainTest_tracked (State.vacate_tracked h o)

end

end Sys2Proof.Machine
end

section
/-! PROOFS. The shift of the row keeps the billets' bookkeeping, and so does every command (R66, R67). -/

namespace Sys2Proof.Machine

/-! ## The row after a shift (R66) -/

theorem RowTracker.tagAt_of_ge (row : RowTracker) {p : Nat} (h : 40 ≤ p) : row.tagAt p = none := by
  simp [RowTracker.tagAt, h]

theorem RowTracker.tagAt_advanced (row : RowTracker) (feed : Option Nat) (q : Nat) :
    ({ row with positions := row.advanced feed } : RowTracker).tagAt q =
      if q = 0 then feed
      else if q < row.length ∧ q < 40 then row.tagAt (q - 1)
      else none := by
  by_cases hq : q < 40
  · simp only [RowTracker.tagAt, RowTracker.advanced, hq, and_true]
    rw [Vector.getElem?_eq_getElem hq, Vector.getElem_ofFn]
    simp only [Option.join_some]
  · rw [RowTracker.tagAt_of_ge _ (Nat.le_of_not_lt hq), if_neg (by omega), if_neg (by simp [hq])]

theorem RowTracker.tagAt_of_unoccupied {row : RowTracker} (h : row.occupied = false) (p : Nat) :
    row.tagAt p = none := by
  by_cases hp : p < 40
  · rw [RowTracker.tagAt, Vector.getElem?_eq_getElem hp]
    exact row.occupied_false.mp h ⟨p, hp⟩
  · exact row.tagAt_of_ge (Nat.le_of_not_lt hp)

theorem RowTracker.unoccupied_of_tagAt {row : RowTracker} (h : ∀ p, row.tagAt p = none) :
    row.occupied = false := by
  refine row.occupied_false.mpr fun p => ?_
  have hp := h p.val
  rw [RowTracker.tagAt, Vector.getElem?_eq_getElem p.isLt] at hp
  exact hp

/-! ## The places after a shift -/

/-- Where a shift takes a record: the queue's head enters the row, the last record arrives at the exit,
and the others rise by one position (R66). -/
def shiftedPlace (feed last : Option Nat) (r : BilletRecord) : Place :=
  if feed = some r.tag then .row 0
  else if last = some r.tag then .exit
  else r.place.advance

/-- The bookkeeping of the shift itself: `t` is `s` shifted, with the last record, if any, at an exit that
was EMPTY. -/
structure Shifted (s t : State) : Prop where
  records : t.pool.records = s.pool.records.map fun r =>
    { r with place := shiftedPlace s.feed (s.row.tagAt (s.row.length - 1)) r }
  queue : t.pool.queue = if s.feed.isSome then s.pool.queue.tail else s.pool.queue
  tagAt : ∀ q, t.row.tagAt q =
    if q = 0 then s.feed
    else if q < s.row.length ∧ q < 40 then s.row.tagAt (q - 1) else none
  length : t.row.length = s.row.length
  slot : t.exit.slot = (s.row.tagAt (s.row.length - 1)).or s.exit.slot

theorem State.feed_eq_some {s : State} {tag : Nat} (h : s.feed = some tag) :
    s.line.mode = .run ∧ s.pool.queue = tag :: s.pool.queue.tail := by
  unfold State.feed at h
  split at h
  · exact ⟨‹_›, (List.cons_head?_tail h).symm⟩
  · cases h

/-- A fed record was QUEUED, so it stands nowhere else; the last record is in the row. -/
theorem PlacesAgree.feed_queued {s : State} (h : PlacesAgree s) {r : BilletRecord}
    (hr : r ∈ s.pool.records) (hfeed : s.feed = some r.tag) : r.place = .queued := by
  obtain ⟨hplaces, -⟩ := h
  obtain ⟨-, hqueue⟩ := State.feed_eq_some hfeed
  exact (hplaces r hr).1.mpr (by rw [hqueue]; exact List.mem_cons_self)

theorem Shifted.places {s t : State} (h : Shifted s t) (hs : PlacesAgree s)
    (hexit : s.row.tagAt (s.row.length - 1) = none ∨ s.exit.slot = none) : PlacesAgree t := by
  obtain ⟨hrecords, hqueue, htagAt, hlength, hslot⟩ := h
  have hqueued := fun r => hs.feed_queued (r := r)
  obtain ⟨hplaces, hinQueue, hinRow, hinSlot, hnodup, hqueueLength, hmin, hmax, hbeyond⟩ := hs
  have hlive : ∀ tag, (∃ r ∈ s.pool.records, r.tag = tag) → ∃ r ∈ t.pool.records, r.tag = tag := by
    rintro tag ⟨r, hr, rfl⟩
    rw [hrecords]
    exact ⟨_, List.mem_map_of_mem hr, rfl⟩
  have hfeedMem : ∀ tag, s.feed = some tag → tag ∈ s.pool.queue := by
    intro tag htag
    rw [(State.feed_eq_some htag).2]
    exact List.mem_cons_self
  have htail : ∀ tag, tag ∈ t.pool.queue ↔ tag ∈ s.pool.queue ∧ s.feed ≠ some tag := by
    intro tag
    rw [hqueue]
    cases hfeed : s.feed with
    | none => simp
    | some head =>
      obtain ⟨-, hcons⟩ := State.feed_eq_some hfeed
      rw [hcons] at hnodup ⊢
      have hfresh := (List.nodup_cons.mp hnodup).1
      simp only [Option.isSome_some, if_true, List.tail_cons, List.mem_cons, ne_eq, Option.some.injEq]
      constructor
      · exact fun hmem => ⟨.inr hmem, fun heq => hfresh (heq ▸ hmem)⟩
      · rintro ⟨rfl | hmem, hne⟩
        · exact absurd rfl hne
        · exact hmem
  have hsub : t.pool.queue.Sublist s.pool.queue := by
    rw [hqueue]
    split
    · exact List.tail_sublist _
    · exact .refl _
  refine ⟨fun r' hr' => ?_, fun tag htag => hlive tag (hinQueue tag ((htail tag).mp htag).1),
    fun p tag htag => hlive tag ?_, fun tag htag => hlive tag ?_, hnodup.sublist hsub,
    hsub.length_le.trans hqueueLength, hlength ▸ hmin, hlength ▸ hmax, fun p hp => ?_⟩
  · rw [hrecords] at hr'
    obtain ⟨r, hr, rfl⟩ := List.mem_map.mp hr'
    obtain ⟨hq, hp, he⟩ := hplaces r hr
    change (shiftedPlace _ _ r = _ ↔ _) ∧ (∀ p, shiftedPlace _ _ r = _ ↔ _) ∧
      (shiftedPlace _ _ r = _ ↔ _)
    simp only [htail, htagAt, hslot, ← hq, ← hp, shiftedPlace]
    cases hplace : r.place with
    | queued =>
      have hrow : ∀ p, s.row.tagAt p ≠ some r.tag := fun p hat => by
        cases ((hp p).mpr hat).symm.trans hplace
      have hout : s.exit.slot ≠ some r.tag := fun hat => by cases (he.mpr hat).symm.trans hplace
      by_cases hfeed : s.feed = some r.tag <;> grind [Place.advance]
    | row p₀ =>
      have hfeed : s.feed ≠ some r.tag := fun hfed => by cases (hqueued r hr hfed).symm.trans hplace
      have hout : s.exit.slot ≠ some r.tag := fun hat => by cases (he.mpr hat).symm.trans hplace
      have hat : s.row.tagAt p₀ = some r.tag := (hp p₀).mp hplace
      have honly : ∀ p, s.row.tagAt p = some r.tag → p = p₀ := fun p h => by
        cases ((hp p).mpr h).symm.trans hplace
        rfl
      have hinside : p₀ < s.row.length := Nat.lt_of_not_le fun hle => by
        cases (hbeyond p₀ hle).symm.trans hat
      grind [Place.advance]
    | exit =>
      have hfeed : s.feed ≠ some r.tag := fun hfed => by cases (hqueued r hr hfed).symm.trans hplace
      have hrow : ∀ p, s.row.tagAt p ≠ some r.tag := fun p hat => by
        cases ((hp p).mpr hat).symm.trans hplace
      have hat : s.exit.slot = some r.tag := he.mp hplace
      grind [Place.advance]
  · rw [htagAt] at htag
    split_ifs at htag
    · exact hinQueue tag (hfeedMem tag htag)
    · exact hinRow _ tag htag
  · rw [hslot, Option.or_eq_some_iff] at htag
    obtain hlast | ⟨-, hheld⟩ := htag
    · exact hinRow _ tag hlast
    · exact hinSlot tag hheld
  · rw [hlength] at hp
    rw [htagAt, if_neg (by omega), if_neg (by omega)]

/-! ## The shift (R66, R67) -/

section
variable {s : State}

theorem State.advanceRow_shifted (hlast : s.row.tagAt (s.row.length - 1) = none) :
    Shifted s s.advanceRow where
  records := by
    simp only [State.advanceRow, shiftedPlace, hlast]
    refine List.map_congr_left fun r _ => ?_
    by_cases hfeed : s.feed = some r.tag <;> simp [hfeed]
  queue := by simp only [State.advanceRow]
  tagAt := fun q => by
    have h := s.row.tagAt_advanced s.feed q
    simp only [State.advanceRow]
    exact h
  length := s.advanceRow_length
  slot := by simp only [State.advanceRow, hlast, Option.none_or]

/-- The advance after the last record's arrival at the exit. -/
theorem State.advanceRow_arrived {x : State} {tag : Nat}
    (hlast : s.row.tagAt (s.row.length - 1) = some tag) (hpool : x.pool = (s.arrive tag).pool)
    (hrow : x.row = s.row) (hexit : x.exit = (s.arrive tag).exit) (hline : x.line = s.line) :
    Shifted s x.advanceRow := by
  have hqueue : x.pool.queue = s.pool.queue := by rw [hpool]; rfl
  have hfeed : x.feed = s.feed := by rw [State.feed, hline, hqueue, State.feed]
  refine ⟨?_, ?_, ?_, ?_, ?_⟩
  · have harrived : x.pool.records =
        s.pool.records.map fun r => if r.tag = tag then { r with place := .exit } else r := by
      rw [hpool]
      rfl
    simp only [State.advanceRow, hfeed, harrived, List.map_map, shiftedPlace, hlast,
      Option.some.injEq]
    refine List.map_congr_left fun r _ => ?_
    by_cases htag : r.tag = tag
    · by_cases hfed : s.feed = some tag <;> simp [htag, hfed, Place.advance]
    · by_cases hfed : s.feed = some r.tag <;> simp [htag, hfed, Ne.symm htag]
  · simp only [State.advanceRow, hfeed, hqueue]
  · intro q
    have h := x.row.tagAt_advanced x.feed q
    rw [hfeed, hrow] at h
    simp only [State.advanceRow, hfeed, hrow]
    exact h
  · simp only [State.advanceRow, hrow]
  · simp only [State.advanceRow, hexit, hlast, Option.some_or]
    rfl

theorem State.arrive_fits (h : StationFits s) (hempty : s.exit.state = .empty) (tag : Nat) :
    StationFits (s.arrive tag) := by
  obtain ⟨-, hwait, -, htransfer, htakes⟩ := h
  rw [hempty] at hwait htransfer
  simp only [reduceCtorEq, iff_false, Bool.not_eq_true, Option.isSome_eq_false_iff,
    Option.isNone_iff_eq_none, StationState.transferring, imp_false] at hwait htransfer
  simp [StationFits, State.arrive, hwait, htransfer, htakes]

/-- A shift keeps the bookkeeping of a state whose exit can take the last record. -/
theorem BilletsTracked.of_shifted {t : State} (h : BilletsTracked s) (hshift : Shifted s t)
    (hline : t.line = s.line) (hfit : StationFits t)
    (hexit : s.row.tagAt (s.row.length - 1) = none ∨ s.exit.slot = none) : BilletsTracked t := by
  obtain ⟨htags, -, hidle, hplaces⟩ := h
  refine ⟨htags.of_map _ (fun r => ?_) hshift.records, hfit, fun hm => ?_,
    hshift.places hplaces hexit⟩
  · rfl
  rw [hline] at hm
  obtain ⟨hrow, hslot⟩ := hidle hm
  have hgap := RowTracker.tagAt_of_unoccupied hrow
  have hfeed : s.feed = none := by
    rw [State.feed, if_neg]
    rintro hrun
    rw [hrun] at hm
    cases hm
  refine ⟨RowTracker.unoccupied_of_tagAt fun q => ?_, ?_⟩
  · rw [hshift.tagAt, hfeed, hgap]
    simp
  · rw [hshift.slot, hgap, hslot]
    rfl

theorem State.shift_tracked (h : BilletsTracked s) : BilletsTracked s.shift := by
  have hadvance : ∀ u : State, u.advanceRow.line = u.line ∧ u.advanceRow.exit = u.exit := fun u => by
    simp only [State.advanceRow, and_self]
  unfold State.shift RowTracker.ejected
  cases hlast : s.row.tagAt (s.row.length - 1) with
  | none =>
    rw [Option.map_none, Option.getD_none]
    exact h.of_shifted (State.advanceRow_shifted hlast) (hadvance s).1
      (h.2.1.of_exit (hadvance s).2) (.inl hlast)
  | some tag =>
    rw [Option.map_some, Option.getD_some]
    unfold State.handOff
    split
    · rename_i hempty
      exact h.of_shifted (State.advanceRow_arrived hlast rfl rfl rfl rfl) (hadvance _).1
        ((State.arrive_fits h.2.1 hempty tag).of_exit (hadvance _).2) (.inr (h.2.1.1.mpr hempty))
    · have hvacated := State.vacate_tracked h .pushedOff
      have hrow : (s.vacate .pushedOff).row = s.row := s.vacate_frame _ .row (by simp)
      have hempty : (s.vacate .pushedOff).exit.state = .empty := by simp [State.vacate]
      refine hvacated.of_shifted
        (State.advanceRow_arrived (by rw [hrow]; exact hlast) rfl (by simp) rfl (by simp))
        ((hadvance _).1.trans (by simp))
        ((State.arrive_fits hvacated.2.1 hempty tag).of_exit ((hadvance _).2.trans rfl))
        (.inr (hvacated.2.1.1.mpr hempty))

theorem BilletsTracked.of_same_line {l : List Block} {t : State} (h : BilletsTracked s)
    (hframe : UnchangedBut l s t) (hl : ∀ b ∈ [Block.pool, .row, .exit, .line], b ∉ l) :
    BilletsTracked t :=
  billetsTracked_reads.of_frame hframe hl h

theorem RowTracker.measureCadence_positions (row : RowTracker) :
    row.measureCadence.positions = row.positions := by
  unfold RowTracker.measureCadence
  split <;> rfl

/-- A line mode that is not idle is entered freely. -/
theorem BilletsTracked.entered {t : State} (h : BilletsTracked s) (hplaced : Placed s t)
    (hexit : t.exit = s.exit) (hmode : t.line.mode.idle = false) : BilletsTracked t :=
  h.of_placed hplaced (h.2.1.of_exit hexit) fun hidle => by cases hmode.symm.trans hidle

theorem State.enterHold_tracked (h : BilletsTracked s) (cause : HoldCause) :
    BilletsTracked (s.enterHold cause) :=
  h.entered (.of_records rfl rfl rfl rfl rfl) rfl rfl

theorem State.cadenceMeasured_tracked (h : BilletsTracked s) : BilletsTracked s.cadenceMeasured :=
  h.of_placed (.of_records rfl rfl s.row.measureCadence_positions s.row.measureCadence_length rfl)
    h.2.1 .inl

theorem State.endStroke_tracked (h : BilletsTracked s) : BilletsTracked s.endStroke := by
  have hclosed : BilletsTracked s.strokeClosed :=
    h.of_placed (.of_records rfl rfl rfl rfl rfl) h.2.1 .inl
  have hmeasured := State.cadenceMeasured_tracked (State.shift_tracked hclosed)
  have htested := State.drainTest_tracked (hmeasured.of_same_line (State.testQueue_frame _) (by simp))
  rw [State.endStroke_eq]
  split
  · exact State.enterHold_tracked htested .pushOff
  · exact htested

theorem State.homeEdge_tracked (h : BilletsTracked s) : BilletsTracked s.homeEdge := by
  unfold State.homeEdge
  split
  · exact State.endStroke_tracked h
  · exact h.of_placed (.of_records rfl rfl rfl rfl rfl) h.2.1 .inl

end

end Sys2Proof.Machine
end

section
/-! PROOFS. Every command keeps the billets' bookkeeping (R7, R9, R59, R132, R149). -/

namespace Sys2Proof.Machine

section
variable {s : State}

/-! ## Requests on records and the row -/

theorem State.createRecord_billets (h : BilletsTracked s) {tag : Nat} (k : RecipeId)
    (mass initial : Nat) (htag : 1 ≤ tag ∧ tag ≤ 65535) (hfree : s.lookup tag = none)
    (hroom : s.pool.queue.length < 8) : BilletsTracked (s.createRecord tag k mass initial) := by
  obtain ⟨⟨hdistinct, hrange⟩, hfit, hidle, hplaces, hinQueue, hinRow, hinSlot, hnodup, -, hrest⟩ := h
  have hfresh := (State.lookup_eq_none_iff (Nat.ne_of_gt htag.1)).mp hfree
  have hunnamed : (∀ r ∈ s.pool.records, r.tag = tag → False) := fun r hr heq => hfresh r hr heq
  have hqueue : tag ∉ s.pool.queue := fun hmem => by
    obtain ⟨r, hr, heq⟩ := hinQueue tag hmem
    exact hfresh r hr heq
  have hrow : ∀ p, s.row.tagAt p ≠ some tag := fun p hat => by
    obtain ⟨r, hr, heq⟩ := hinRow p tag hat
    exact hfresh r hr heq
  have hslot : s.exit.slot ≠ some tag := fun hat => by
    obtain ⟨r, hr, heq⟩ := hinSlot tag hat
    exact hfresh r hr heq
  have hlive : ∀ x, (∃ r ∈ s.pool.records, r.tag = x) →
      ∃ r ∈ (s.createRecord tag k mass initial).pool.records, r.tag = x := by
    rintro x ⟨r, hr, rfl⟩
    exact ⟨r, List.mem_append_left _ hr, rfl⟩
  refine ⟨⟨?_, fun r hr => ?_⟩, hfit, hidle, fun r hr => ?_, fun x hx => ?_,
    fun p x hx => hlive x (hinRow p x hx), fun x hx => hlive x (hinSlot x hx), ?_, ?_, hrest⟩
  · change ((s.pool.records ++ [_]).map BilletRecord.tag).Nodup
    rw [List.map_append, List.map_singleton]
    refine List.nodup_append.mpr ⟨hdistinct, List.nodup_singleton _, fun x hx y hy => ?_⟩
    obtain ⟨r, hr, rfl⟩ := List.mem_map.mp hx
    rw [List.mem_singleton.mp hy]
    exact hfresh r hr
  · obtain hr | hr := List.mem_append.mp hr
    · exact hrange r hr
    · rwa [List.mem_singleton.mp hr]
  · change (_ ↔ _ ∈ s.pool.queue ++ [tag]) ∧ _
    rw [List.mem_append, List.mem_singleton]
    obtain hr | hr := List.mem_append.mp hr
    · obtain ⟨hq, hp, he⟩ := hplaces r hr
      exact ⟨hq.trans (or_iff_left (hfresh r hr)).symm, hp, he⟩
    · rw [List.mem_singleton.mp hr]
      refine ⟨iff_of_true rfl (.inr rfl), fun p => iff_of_false (by simp [newRecord]) (hrow p),
        iff_of_false (by simp [newRecord]) hslot⟩
  · obtain hx | hx := List.mem_append.mp hx
    · exact hlive x (hinQueue x hx)
    · rw [List.mem_singleton.mp hx]
      exact ⟨_, List.mem_append_right _ (List.mem_singleton_self _), rfl⟩
  · change (s.pool.queue ++ [tag]).Nodup
    exact List.nodup_append.mpr ⟨hnodup, List.nodup_singleton _, fun x hx y hy heq =>
      hqueue (by rwa [← List.mem_singleton.mp hy, ← heq])⟩
  · change (s.pool.queue ++ [tag]).length ≤ 8
    rw [List.length_append, List.length_singleton]
    exact hroom

theorem State.load_billets (h : BilletsTracked s) (tag recipe mass initial : Nat) :
    BilletsTracked (s.load tag recipe mass initial).2 := by
  obtain hsame | ⟨k, htag, -, hfree, hroom, hcreate⟩ := s.load_cases tag recipe mass initial
  · rwa [hsame]
  · rw [hcreate]
    exact State.createRecord_billets h k mass initial htag hfree hroom

theorem State.amendBillet_billets (h : BilletsTracked s) (tag parts : Nat) (offset : Int)
    (recipe : Nat) : BilletsTracked (s.amendBillet tag parts offset recipe).2 := by
  obtain hsame | ⟨r, k, -, -, happly⟩ := s.amendBillet_cases tag parts offset recipe
  · rwa [hsame]
  have hframe := s.applyAmend_frame r parts offset k
  have hplaced : Placed s (s.applyAmend r parts offset k) := by
    refine .of_map _ (fun x => ?_) (s.applyAmend_pool r parts offset k) (hframe .row (by simp))
      (hframe .exit (by simp))
    split <;> exact ⟨rfl, rfl⟩
  rw [happly]
  exact h.at_exit hplaced (h.2.1.of_exit (hframe .exit (by simp))) hframe (by simp)

theorem State.withdraw_billets (h : BilletsTracked s) (tag : Nat) :
    BilletsTracked (s.withdraw tag).2 := by
  simp only [State.withdraw]
  split
  · exact h
  rename_i r hlookup
  obtain ⟨hr, rfl, -⟩ := State.lookup_some hlookup
  split
  · rename_i hqueued
    have hslot : s.exit.slot ≠ some r.tag := fun hat => by
      cases ((h.2.2.2.1 r hr).2.2.mpr hat).symm.trans hqueued
    have hretire := State.retire_of_lookup (s := { s with pool := { s.pool with
      queue := s.pool.queue.filter fun t => t != r.tag } }) .withdrawn hlookup
    refine h.of_removed hr ?_ ?_ ?_ ?_ ?_ ?_ (.inl hqueued) <;> simp only [accept, hretire]
    · exact h.2.1
    · cases hheld : s.exit.slot with
      | none => rfl
      | some held =>
        have hne : held ≠ r.tag := fun heq => hslot (heq ▸ hheld)
        rw [Option.filter_some, if_pos (bne_iff_ne.mpr hne)]
  · exact h

theorem State.setRowLength_billets (h : BilletsTracked s) (value : Nat) :
    BilletsTracked (s.setRowLength value).2 := by
  unfold State.setRowLength
  split
  · exact h
  rename_i hidleMode
  split
  · exact h
  rename_i hrange
  split
  · exact h
  obtain ⟨htags, hfit, hidle, hplaces, hinQueue, hinRow, hinSlot, hnodup, hlength, -, -, -⟩ := h
  simp only [Bool.not_eq_true', Bool.not_eq_false] at hidleMode
  simp only [Bool.or_eq_true, decide_eq_true_eq, not_or, Nat.not_lt] at hrange
  exact ⟨htags, hfit, hidle, hplaces, hinQueue, hinRow, hinSlot, hnodup, hlength, hrange.1, hrange.2,
    fun p _ => RowTracker.tagAt_of_unoccupied (hidle hidleMode).1 p⟩

/-! ## Line modes -/

/-- A change of the line alone keeps the bookkeeping where an idle mode is entered from an idle mode or
an empty line. -/
theorem BilletsTracked.of_line {l : List Block} {t : State} (h : BilletsTracked s)
    (hframe : UnchangedBut l s t) (hl : ∀ b ∈ [Block.pool, .row, .exit], b ∉ l)
    (hmode : t.line.mode.idle = true → s.line.mode.idle = true ∨ s.lineEmpty = true) :
    BilletsTracked t :=
  h.of_placed (.of_frame hframe (hl _ (by simp)) (hl _ (by simp)) (hl _ (by simp)))
    (h.2.1.of_exit (hframe .exit (hl _ (by simp)))) hmode

theorem State.startAutoHold_mode (s : State) : s.startAutoHold.line.mode = s.line.mode := by
  unfold State.startAutoHold
  split <;> rfl

theorem State.enterRun_mode (s : State) : s.enterRun.line.mode = .run := State.startAutoHold_mode _

theorem State.enterRun_billets (h : BilletsTracked s) : BilletsTracked s.enterRun :=
  h.entered (.of_records (by simp [State.enterRun]) (by simp [State.enterRun])
    (by simp [State.enterRun, State.clearCadence]) (by simp [State.enterRun, State.clearCadence])
    (by simp [State.enterRun])) (by simp [State.enterRun]) (by rw [State.enterRun_mode]; rfl)

theorem State.enterTripped_billets (h : BilletsTracked s) (cause : TripCause) :
    BilletsTracked (s.enterTripped cause) :=
  h.of_line (s.enterTripped_frame cause) (by simp) (fun hidle => by cases hidle)

theorem State.enterDrain_mode (s : State) : s.enterDrain.line.mode = .drain := by
  unfold State.enterDrain
  dsimp only
  split
  · exact State.startAutoHold_mode _
  · rfl

theorem State.enterDrain_frame (s : State) : UnchangedBut [.line] s s.enterDrain := by
  simp [unchangedBut_iff]

theorem State.drainNow_billets (h : BilletsTracked s) : BilletsTracked s.drainNow :=
  State.drainTest_tracked (h.of_line s.enterDrain_frame (by simp) fun hidle => by
    rw [State.enterDrain_mode] at hidle
    cases hidle)

theorem State.leaveTrip_billets (h : BilletsTracked s) : BilletsTracked s.leaveTrip := by
  simp only [State.leaveTrip]
  split
  · exact h.of_line (l := [.line]) (by simp [unchangedBut_iff]) (by simp) fun _ => .inr ‹_›
  · exact h.of_line (l := [.line, .link]) (by simp [unchangedBut_iff]) (by simp) fun hidle => by
      cases hidle

theorem State.modeAction_billets (h : BilletsTracked s) (ok : Bool) {act : State → State}
    (hact : BilletsTracked (act s)) : BilletsTracked (s.modeAction ok act).2 := by
  unfold State.modeAction
  split
  · exact hact
  · exact h

theorem State.feederFaultChanged_billets (h : BilletsTracked s) (active : Bool) :
    BilletsTracked (s.feederFaultChanged active) := by
  have hlatched : ∀ latch, BilletsTracked { s with line := { s.line with faultLatch := latch } } :=
    fun latch => h.of_placed (.of_records rfl rfl rfl rfl rfl) h.2.1 .inl
  simp only [State.feederFaultChanged]
  repeat' split
  · exact State.enterTripped_billets (hlatched true) .feeder
  · exact hlatched true
  · exact hlatched false
  · exact h

/-! ## Restart and reports -/

theorem State.restartEntry_billets (h : BilletsTracked s) (cause : RestartCause) :
    BilletsTracked (s.restartEntry cause) := by
  refine h.of_placed (.of_records rfl rfl rfl rfl rfl) ?_ fun hidle => by cases hidle
  obtain ⟨hempty, hwait, -, -, -⟩ := h.2.1
  exact ⟨hempty, hwait, nofun, nofun, Nat.zero_le _⟩

theorem State.stepEntries_placed (s : State) (band : Option Band)
    (shared : List (ReportEntry × Nat)) : Placed s (s.stepEntries band shared) := by
  refine .of_map _ (fun r => ?_) rfl rfl rfl
  split <;> exact ⟨rfl, rfl⟩

theorem State.absorb_placed (s : State) (report : Report) : Placed s (s.absorb report) := by
  simp only [State.absorb]
  split
  · exact s.stepEntries_placed _ _
  · exact (s.stepEntries_placed _ _).trans (.of_records rfl rfl rfl rfl rfl)

theorem State.takeReport_placed (s : State) (origin : Option ZoneId) :
    Placed s (s.takeReport origin) := by
  unfold State.takeReport
  repeat' split
  · refine .trans ?_ (State.absorb_placed _ _)
    exact .of_records rfl rfl rfl rfl rfl
  all_goals exact .of_records rfl rfl rfl rfl rfl

theorem State.takeHeldReports_placed (s : State) : Placed s s.takeHeldReports := by
  have hfold : ∀ (reports : List Report) (u : State), Placed u (reports.foldl State.absorb u) := by
    intro reports
    induction reports with
    | nil => exact fun u => .of_records rfl rfl rfl rfl rfl
    | cons report rest ih => exact fun u => (u.absorb_placed report).trans (ih _)
  refine .trans ?_ (hfold _ _)
  exact .of_records rfl rfl rfl rfl rfl

theorem repeatStep_placed {step : BilletRecord → BilletRecord}
    (hstep : ∀ r, (step r).tag = r.tag ∧ (step r).place = r.place) (n : Nat) (r : BilletRecord) :
    (repeatStep step n r).tag = r.tag ∧ (repeatStep step n r).place = r.place := by
  induction n generalizing r with
  | zero => exact ⟨rfl, rfl⟩
  | succ n ih => exact ⟨(ih _).1.trans (hstep r).1, (ih _).2.trans (hstep r).2⟩

theorem markStale_placed (missed : Nat) (r : BilletRecord) :
    (markStale missed r).tag = r.tag ∧ (markStale missed r).place = r.place := by
  unfold markStale
  split <;> exact ⟨rfl, rfl⟩

theorem State.catchUp_placed (s : State) : Placed s s.catchUp := by
  refine .of_map s.caughtUp (fun r => ?_) rfl rfl rfl
  unfold State.caughtUp
  split
  · obtain ⟨htag, hplace⟩ := markStale_placed s.missedRounds r
    have hsteps := repeatStep_placed (step := s.stepped none 0) (fun _ => ⟨rfl, rfl⟩)
      (min Config.catchUpCap s.missedRounds) (markStale s.missedRounds r)
    exact ⟨hsteps.1.trans htag, hsteps.2.trans hplace⟩
  · exact ⟨rfl, rfl⟩

theorem BilletsTracked.of_pool {l : List Block} {t : State} (h : BilletsTracked s)
    (hplaced : Placed s t) (hframe : UnchangedBut l s t) (hexit : .exit ∉ l) (hline : .line ∉ l) :
    BilletsTracked t :=
  h.at_exit hplaced (h.2.1.of_exit (hframe .exit hexit)) hframe hline

theorem State.retireInFlight_billets (h : BilletsTracked s) : BilletsTracked s.retireInFlight := by
  unfold State.retireInFlight
  split
  · exact State.endTransfer_tracked h _
  · exact h

theorem State.releaseBillets_tracked (h : BilletsTracked s) (retireFirst : Bool) :
    BilletsTracked (s.releaseBillets retireFirst).1 := by
  have hcaught : ∀ u : State, BilletsTracked u → BilletsTracked u.takeHeldReports.catchUp := by
    intro u hu
    have hreported := hu.of_pool u.takeHeldReports_placed u.takeHeldReports_frame (by simp) (by simp)
    exact hreported.of_pool (State.catchUp_placed _) (State.catchUp_frame _) (by simp) (by simp)
  cases retireFirst with
  | true => exact hcaught _ (State.retireInFlight_billets h)
  | false => exact State.retireInFlight_billets (hcaught s h)

theorem State.restartWindow_billets (h : BilletsTracked s) : BilletsTracked s.restartWindow := by
  unfold State.restartWindow
  split
  · rename_i hmeasuring
    obtain ⟨hempty, hwait, -, htransfer, htakes⟩ := id h.2.1
    exact h.of_placed (.of_records rfl rfl rfl rfl rfl)
      ⟨hempty, hwait, fun _ => hmeasuring, htransfer, htakes⟩ .inl
  · exact h

theorem State.released_mode (s : State) (h : RestartHold) :
    (s.released h).line.mode = s.line.mode := by
  unfold State.released
  split <;> simp [State.endHold, State.releaseBlocks]

theorem State.releaseHeld_billets (h : BilletsTracked s) (retireFirst : Bool) :
    BilletsTracked (s.releaseHeld retireFirst) := by
  unfold State.releaseHeld
  split
  · rename_i hold _
    rw [State.release_eq]
    have hreleased : BilletsTracked (s.released hold) :=
      h.of_line (s.released_frame hold) (by simp) fun hidle => .inl (by
        rwa [State.released_mode] at hidle)
    have hwindow := State.restartWindow_billets (State.releaseBillets_tracked hreleased retireFirst)
    exact hwindow.of_same_line (l := [.restart]) (by simp [unchangedBut_iff]) (by simp)
  · exact h

theorem powerOn_billets (levels : Levels) (pending : List Instr) :
    BilletsTracked (State.powerOn levels pending) := by
  have hrow : RowTracker.reset.occupied = false := by decide
  have hgap := RowTracker.tagAt_of_unoccupied hrow
  have hstation : StationFits (State.powerOn levels pending) := by
    simp [StationFits, State.powerOn, ExitStation.reset]
  refine ⟨⟨List.nodup_nil, nofun⟩, hstation, fun _ => ⟨hrow, rfl⟩, nofun, nofun,
    fun p tag htag => ?_, nofun, List.nodup_nil, Nat.zero_le _, ?_, ?_, fun p _ => hgap p⟩
  · change RowTracker.reset.tagAt p = some tag at htag
    rw [hgap] at htag
    cases htag
  · change 4 ≤ RowTracker.reset.length
    decide
  · change RowTracker.reset.length ≤ 40
    decide

end

/-! ## Every command -/

theorem counted_billets {s t : State} (b : Bool) (hs : BilletsTracked s) (h : BilletsTracked t) :
    BilletsTracked (if b then t else s) := by
  cases b
  · exact hs
  · exact h

theorem State.reach_billets {s : State} (h : BilletsTracked s) (due : Nat) :
    BilletsTracked (s.reach due) :=
  h.of_same_line (s.reach_frame due) (by simp)

theorem effect_billets {i : Instr} {s : State} (h : BilletsTracked s) :
    BilletsTracked (effect i s) := by
  have answering : ∀ {act : State → Response × State}, BilletsTracked (act s).2 →
      BilletsTracked (State.answering act s) := billetsTracked_reads.answering (by simp)
  by_cases htouch : ∃ b ∈ [Block.pool, .row, .exit, .line], b ∈ touched i
  swap
  · exact h.of_same_line (effect_frame i s) fun b hb hmem => htouch ⟨b, hb, hmem⟩
  cases i with
  | powerOnReset edge =>
    cases edge with
    | held => exact h.of_same_line (l := [.restart]) s.holdPowerOn_unchangedBut (by simp)
    | released levels =>
      have hpower := powerOn_billets levels s.pending
      simp only [effect, State.releasePowerOn]
      split
      · exact State.restartEntry_billets hpower .ctrlReset
      · exact hpower
  | ctrlResetAsserted => exact State.restartEntry_billets h .ctrlReset
  | restart _ => exact State.restartEntry_billets h .request
  | restartRelease first => exact State.releaseHeld_billets h first
  | loadBillet _ tag recipe mass initial =>
    exact answering (act := fun s => s.load tag recipe mass initial)
      (State.load_billets h tag recipe mass initial)
  | amendBillet _ tag parts offset recipe =>
    exact answering (act := fun s => s.amendBillet tag parts offset recipe)
      (State.amendBillet_billets h tag parts offset recipe)
  | withdrawBillet _ tag =>
    exact answering (act := fun s => s.withdraw tag) (State.withdraw_billets h tag)
  | readLastRetired _ clear =>
    refine answering (act := fun s => s.readLastRetired clear) ?_
    simp only [State.readLastRetired]
    split
    · exact h
    · exact h
    · exact h.of_placed (.of_records rfl rfl rfl rfl rfl) h.2.1 .inl
  | setRowLength _ value =>
    exact answering (act := fun s => s.setRowLength value) (State.setRowLength_billets h value)
  | setLine _ parts f =>
    refine answering (act := fun s => s.setLine parts f) ?_
    refine h.of_line (s.setLine_frame parts f) (by simp) fun hidle => .inl ?_
    have hmode : (s.setLine parts f).2.line.mode = s.line.mode := by
      simp only [State.setLine]
      repeat' split
      all_goals simp [refuse, accept, State.storeParameters]
    rwa [hmode] at hidle
  | modeStart _ unnamed =>
    refine answering (act := fun s => s.modeStart unnamed) ?_
    cases unnamed with
    | some b => exact h
    | none =>
      simp only [State.modeStart, State.start]
      repeat' split
      case isFalse => exact State.enterRun_billets h
      all_goals exact h
  | modeHold _ =>
    simp only [effect]
    exact answering (State.modeAction_billets h _ (State.enterHold_tracked h .request))
  | modeResume _ =>
    simp only [effect]
    exact answering (State.modeAction_billets h _ (State.enterRun_billets h))
  | modeDrain _ =>
    simp only [effect]
    exact answering (State.modeAction_billets h _ (State.drainNow_billets h))
  | modeTrip _ =>
    simp only [effect]
    exact answering (State.modeAction_billets h _ (State.enterTripped_billets h .request))
  | modeClearTrip _ =>
    refine answering (act := State.clearTrip) ?_
    simp only [State.clearTrip]
    repeat' split
    · exact h
    · exact h
    · exact State.leaveTrip_billets h
  | modeService _ =>
    simp only [effect]
    refine answering ?_
    unfold State.modeAction
    split
    · rename_i hstopped
      refine h.of_line (l := [.line]) (by simp [unchangedBut_iff, State.modeResponse]) (by simp)
        fun _ => .inl ?_
      rw [of_decide_eq_true hstopped]
      rfl
    · exact h
  | modeLeaveService _ =>
    refine answering (act := State.leaveService) ?_
    unfold State.leaveService
    split
    · exact h
    rename_i hservice
    split
    · exact h
    · refine h.of_line (l := [.line, .tuner]) (by simp [unchangedBut_iff, State.modeResponse])
        (by simp) fun _ => .inl ?_
      rw [not_not.mp hservice]
      rfl
  | strokeBegin e =>
    refine counted_billets _ h ?_
    unfold State.beginStroke
    split <;> exact h.of_placed (.of_records rfl rfl rfl rfl rfl) h.2.1 .inl
  | strokeEnd e => exact counted_billets _ h (State.homeEdge_tracked h)
  | strokeTimerExpiry =>
    simp only [effect, State.expireStroke]
    split
    · exact h
    rename_i due _
    have hstopped : BilletsTracked ({ s.reach due with
        row := { (s.reach due).row with strokeTimer := none } }.raise .strokeFault) :=
      (State.reach_billets h due).of_placed (.of_records rfl rfl rfl rfl rfl) h.2.1 .inl
    split
    · exact State.enterHold_tracked hstopped .strokeTimeout
    · exact hstopped
  | takeEdge e => exact counted_billets _ h (State.takeRequest_tracked h)
  | pressDoneEdge e =>
    refine counted_billets _ h ?_
    unfold State.pressDone
    split
    · exact State.endTransfer_tracked h _
    · exact h.of_placed (.of_records rfl rfl rfl rfl rfl) h.2.1 .inl
  | chuteDoneEdge e =>
    refine counted_billets _ h ?_
    unfold State.chuteDone
    split
    · exact State.endTransfer_tracked h _
    · exact h.of_placed (.of_records rfl rfl rfl rfl rfl) h.2.1 .inl
  | transferTimerExpiry =>
    simp only [effect, State.expireTransfer]
    repeat' split
    · exact h
    · exact State.endTransfer_tracked (State.reach_billets h _) _
    · exact h
  | pressReadyChange active =>
    refine h.of_line (s.pressReadyChanged_frame active) (by simp) fun hidle => .inl ?_
    have hmode : (s.pressReadyChanged active).line.mode = s.line.mode := by
      unfold State.pressReadyChanged
      repeat' split
      · rfl
      · exact s.startAutoHold_mode
      · rfl
    rwa [← hmode]
  | autoHoldExpiry =>
    simp only [effect, State.expireAutoHold]
    repeat' split
    · exact h
    · exact State.enterHold_tracked (State.reach_billets h _) .pressNotReady
    · exact h
  | feederFaultChange active => exact State.feederFaultChanged_billets h active
  | pyrometerReading value valid => exact State.takeReading_tracked h value valid
  | measurementWindowExpiry =>
    simp only [effect, State.expireWindow]
    repeat' split
    · exact h
    · exact State.closeWindow_tracked (State.reach_billets h _) ‹_›
    · exact h
  | stepNotice => exact State.takeStep_tracked h
  | markNotice => exact State.takeMark_tracked h
  | roundBoundary =>
    have hrow : (effect .roundBoundary s).row.positions = s.row.positions := by
      have hopen : ∀ u : State, u.openCollection.row = u.row := fun u =>
        u.openCollection_frame .row (by simp)
      simp [effect, State.takeBoundary, hopen, State.markBoundary, State.countRound,
        State.closeMeters]
    have hframe := effect_frame .roundBoundary s
    have hpool : (effect .roundBoundary s).pool = s.pool := hframe .pool (by simp [touched])
    have hexit : (effect .roundBoundary s).exit = s.exit := hframe .exit (by simp [touched])
    have hline : (effect .roundBoundary s).line = s.line := hframe .line (by simp [touched])
    exact h.of_placed (.of_records (by rw [hpool]) (by rw [hpool]) hrow
      (effect_rowLength _ s (by simp) (by simp)) (by rw [hexit])) (h.2.1.of_exit hexit)
      fun hidle => .inl (hline ▸ hidle)
  | energyReport z =>
    exact h.of_pool (s.takeReport_placed (some z)) (s.takeReport_frame (some z)) (by simp) (by simp)
  | unheatedReport =>
    exact h.of_pool (s.takeReport_placed none) (s.takeReport_frame none) (by simp) (by simp)
  | _ => simp [touched] at htouch

/-- Settles O59: `effect_billets`, command by command; the shift of the row is `Shifted.places`, a
retirement `BilletsTracked.of_removed`, and every other command leaves places and references alone
(`BilletsTracked.of_placed`). -/
theorem billetsStayTracked : Obligations.BilletsStayTracked := by
  unfold Obligations.BilletsStayTracked
  intro s t h hs
  exact step_keeps billetsTracked_reads (by simp) (fun i _ u hu => effect_billets hu)
    (fun u hu => hu.of_same_line (l := [.clock, .zones]) (by simp [unchangedBut_iff]) (by simp)) h hs

end Sys2Proof.Machine
end

section
/-! PROOFS. Records keep their identity (R1, R2), the line mode follows its table (R149), and a hold
takes no event (R165, R167, R182). -/

namespace Sys2Proof.Machine

/-! ## Records that stay live (R1, R2) -/

/-- Each record of `t` is a record of `s`: same tag, load number and mass, at the exit if it was there, and
of the same recipe unless it was QUEUED. -/
def IdentityKept (s t : State) : Prop :=
  ∀ r' ∈ t.pool.records, ∃ r ∈ s.pool.records,
    r'.tag = r.tag ∧ r'.loadSeq = r.loadSeq ∧ r'.mass = r.mass ∧
      (r.place = .exit → r'.place = .exit) ∧ (r'.recipe ≠ r.recipe → r.place = .queued)

theorem PoolMoved.keeps_identity {s t : State} (h : PoolMoved true s t) : IdentityKept s t := by
  intro r' hr'
  obtain ⟨r, hr, htag, hseq, hmass, hrecipe, -, hexit⟩ := h.origin r' hr'
  exact ⟨r, hr, htag, hseq, hmass, hexit rfl, fun hne => absurd hrecipe hne⟩

theorem IdentityKept.of_pool {s t : State} (h : t.pool.records = s.pool.records) :
    IdentityKept s t := by
  intro r' hr'
  exact ⟨r', h ▸ hr', rfl, rfl, rfl, id, fun hne => absurd rfl hne⟩

theorem IdentityKept.of_subset {s t u : State} (h : ∀ r ∈ t.pool.records, r ∈ s.pool.records)
    (h' : IdentityKept t u) : IdentityKept s u := by
  intro r'' hr''
  obtain ⟨r', hr', hsame⟩ := h' r'' hr''
  exact ⟨r', h r' hr', hsame⟩

theorem State.amendBillet_identity {s : State} (hs : TagsDistinct s) (tag parts : Nat) (offset : Int)
    (recipe : Nat) : IdentityKept s (s.amendBillet tag parts offset recipe).2 := by
  obtain hsame | ⟨r, k, hlookup, hk, happly⟩ := s.amendBillet_cases tag parts offset recipe
  · exact .of_pool (by rw [hsame])
  obtain ⟨hr, -, -⟩ := State.lookup_some hlookup
  intro r' hr'
  rw [happly, State.applyAmend_records] at hr'
  obtain ⟨x, hx, rfl⟩ := List.mem_map.mp hr'
  refine ⟨x, hx, ?_⟩
  split
  · rename_i htag
    obtain rfl := hs.unique hr hx htag
    refine ⟨rfl, rfl, rfl, id, fun hne => ?_⟩
    obtain rfl | ⟨hqueued, -⟩ := hk
    · exact absurd rfl hne
    · exact hqueued
  · exact ⟨rfl, rfl, rfl, id, fun hne => absurd rfl hne⟩

theorem Shifted.keeps_identity {s t : State} (h : Shifted s t) (hs : PlacesAgree s) :
    IdentityKept s t := by
  intro r' hr'
  rw [h.records] at hr'
  obtain ⟨r, hr, rfl⟩ := List.mem_map.mp hr'
  refine ⟨r, hr, rfl, rfl, rfl, fun hexit => ?_, fun hne => absurd rfl hne⟩
  have hfeed : s.feed ≠ some r.tag := fun hfed => by
    cases (hs.feed_queued hr hfed).symm.trans hexit
  change shiftedPlace _ _ r = .exit
  unfold shiftedPlace
  rw [if_neg hfeed]
  split
  · rfl
  · rw [hexit]
    rfl

theorem State.vacate_subset (s : State) (o : BilletOutcome) :
    ∀ r ∈ (s.vacate o).pool.records, r ∈ s.pool.records := by
  intro r hr
  unfold State.vacate at hr
  cases hslot : s.exit.slot with
  | none =>
    rw [hslot] at hr
    exact hr
  | some tag =>
    rw [hslot] at hr
    change r ∈ (s.retire tag o).pool.records at hr
    obtain ⟨-, hnone⟩ | ⟨-, -, hrecords, -⟩ := s.retire_cases tag o
    · rwa [hnone] at hr
    · rw [hrecords] at hr
      exact (List.mem_filter.mp hr).1

/-- A shift, or a push-off and then a shift (R66, R67). -/
theorem State.shift_cases (s : State) :
    (s.row.tagAt (s.row.length - 1) = none ∨ s.exit.state = .empty) ∧ Shifted s s.shift ∨
      Shifted (s.vacate .pushedOff) s.shift := by
  unfold State.shift RowTracker.ejected
  cases hlast : s.row.tagAt (s.row.length - 1) with
  | none => exact .inl ⟨.inl rfl, State.advanceRow_shifted hlast⟩
  | some tag =>
    rw [Option.map_some, Option.getD_some]
    unfold State.handOff
    split
    · exact .inl ⟨.inr ‹_›, State.advanceRow_arrived hlast rfl rfl rfl rfl⟩
    · have hrow : (s.vacate .pushedOff).row = s.row := s.vacate_frame _ .row (by simp)
      exact .inr (State.advanceRow_arrived (by rw [hrow]; exact hlast) rfl (by simp) rfl (by simp))

theorem State.homeEdge_identity {s : State} (hs : BilletsTracked s) : IdentityKept s s.homeEdge := by
  unfold State.homeEdge
  split
  swap
  · exact .of_pool rfl
  have hclosed : BilletsTracked s.strokeClosed :=
    hs.of_placed (.of_records rfl rfl rfl rfl rfl) hs.2.1 .inl
  have hpool : s.endStroke.pool = s.strokeClosed.shift.pool :=
    s.endStroke_afterShift_frame .pool (by simp)
  have hshift : IdentityKept s.strokeClosed s.strokeClosed.shift := by
    obtain ⟨-, hshifted⟩ | hpushed := s.strokeClosed.shift_cases
    · exact hshifted.keeps_identity hclosed.2.2.2
    · exact .of_subset (State.vacate_subset _ _)
        (hpushed.keeps_identity (State.vacate_tracked hclosed _).2.2.2)
  intro r' hr'
  rw [hpool] at hr'
  exact hshift r' hr'

theorem effect_identity {i : Instr} {s : State} (hs : BilletsTracked s)
    (hload : ∀ c tag recipe mass initial, i ≠ .loadBillet c tag recipe mass initial) :
    IdentityKept s (effect i s) := by
  by_cases htouch : .pool ∈ touched i
  swap
  · exact .of_pool (congrArg Pool.records (effect_frame i s .pool htouch))
  by_cases hstroke : ∃ e, i = .strokeEnd e
  · obtain ⟨e, rfl⟩ := hstroke
    simp only [effect]
    split
    · exact State.homeEdge_identity hs
    · exact .of_pool rfl
  cases hwrites : writesPool i with
  | false => exact (effect_poolMoves hwrites (fun _ => not_exists.mp hstroke) s).keeps_identity
  | true =>
    cases i with
    | powerOnReset edge =>
      cases edge with
      | held => cases hwrites
      | released levels =>
        intro r' hr'
        rw [effect, (s.releasePowerOn_pool levels).1] at hr'
        cases hr'
    | loadBillet c tag recipe mass initial => exact absurd rfl (hload c tag recipe mass initial)
    | amendBillet _ tag parts offset recipe =>
      exact State.amendBillet_identity hs.1 tag parts offset recipe
    | _ => simp [touched, writesPool] at htouch hwrites

/-- Settles O14: `effect_identity`, from a state that differs from `s` in link and pins only. -/
theorem recordsKeepTheirIdentity : Obligations.RecordsKeepTheirIdentity := by
  unfold Obligations.RecordsKeepTheirIdentity
  intro i s t hs h hload
  obtain ⟨u, hu, ht⟩ := exec_cases h
  have hframe := hu.mono (quiet_subset i)
  have hpool : u.pool = s.pool := hframe .pool (by simp)
  refine IdentityKept.of_subset (t := u) (fun r hr => hpool ▸ hr) ?_
  obtain rfl | rfl := ht
  · exact .of_pool rfl
  · exact effect_identity (hs.of_same_line hframe (by simp)) hload

/-! ## The line mode (R149) -/

/-- The mode stands, or a drain is complete (R154). -/
def DrainedOnly (s t : State) : Prop :=
  t.line.mode = s.line.mode ∨ s.line.mode = .drain ∧ t.line.mode = .stopped

theorem DrainedOnly.of_line {s t : State} (h : t.line = s.line) : DrainedOnly s t :=
  .inl (by rw [h])

theorem DrainedOnly.of_changed {s t : State} (h : DrainedOnly s t)
    (hne : t.line.mode ≠ s.line.mode) : s.line.mode = .drain ∧ t.line.mode = .stopped :=
  h.resolve_left hne

theorem DrainedOnly.of_mode {s t u : State} (h : DrainedOnly t u)
    (hmode : t.line.mode = s.line.mode) : DrainedOnly s u := by
  rwa [DrainedOnly, ← hmode]

theorem DrainedOnly.then_mode {s t u : State} (h : DrainedOnly s t)
    (hmode : u.line.mode = t.line.mode) : DrainedOnly s u := by
  rwa [DrainedOnly, hmode]

theorem State.drainTest_mode (s : State) : DrainedOnly s s.drainTest := by
  obtain hsame | ⟨hdrain, -, hstopped⟩ := s.drainTest_eq
  · exact .of_line (by rw [hsame])
  · rw [hstopped]
    exact .inr ⟨hdrain, rfl⟩

theorem State.endTransfer_mode (s : State) (o : BilletOutcome) : DrainedOnly s (s.endTransfer o) :=
  (State.drainTest_mode _).of_mode (by simp)

theorem State.retireInFlight_mode (s : State) : DrainedOnly s s.retireInFlight := by
  unfold State.retireInFlight
  split
  · exact s.endTransfer_mode _
  · exact .of_line rfl

theorem State.releaseHeld_mode (s : State) (retireFirst : Bool) :
    DrainedOnly s (s.releaseHeld retireFirst) := by
  have hheld : ∀ u : State, u.takeHeldReports.catchUp.line = u.line := fun u =>
    (State.catchUp_frame _ .line (by simp)).trans (u.takeHeldReports_frame .line (by simp))
  have hbillets : ∀ u : State, DrainedOnly u (u.releaseBillets retireFirst).1 := by
    intro u
    cases retireFirst with
    | true => exact u.retireInFlight_mode.then_mode (congrArg LineSequencer.mode (hheld _))
    | false => exact (State.retireInFlight_mode _).of_mode (congrArg LineSequencer.mode (hheld u))
  unfold State.releaseHeld
  split
  · rename_i hold _
    rw [State.release_eq]
    refine ((hbillets _).of_mode (s.released_mode hold)).then_mode ?_
    exact congrArg LineSequencer.mode (State.restartWindow_frame _ .line (by simp))
  · exact .of_line rfl

theorem LineMode.pushing_iff (m : LineMode) : m.pushing = true ↔ m = .run ∨ m = .drain := by
  cases m <;> simp [LineMode.pushing]

theorem LineMode.production_iff (m : LineMode) :
    m.production = true ↔ m = .run ∨ m = .hold ∨ m = .drain := by
  cases m <;> simp [LineMode.production]

theorem LineMode.idle_iff (m : LineMode) : m.idle = true ↔ m = .stopped ∨ m = .service := by
  cases m <;> simp [LineMode.idle]

theorem State.endStroke_mode (s : State) :
    DrainedOnly s s.endStroke ∨ s.line.mode.pushing = true ∧ s.endStroke.line.mode = .hold ∧
      s.endStroke.line.holdCause = some .pushOff := by
  have hshift : s.strokeClosed.shift.cadenceMeasured.testQueue.line = s.line :=
    (State.testQueue_frame _ .line (by simp)).trans (State.shift_frame s.strokeClosed .line (by simp))
  rw [State.endStroke_eq]
  split
  · rename_i hpushed
    exact .inr ⟨(Bool.and_eq_true_iff.mp hpushed).2, rfl, rfl⟩
  · exact .inl ((State.drainTest_mode _).of_mode (by rw [hshift]))

/-- A MODE action that changed the mode was accepted and made its transition. -/
theorem State.modeAction_changed {s : State} {ok : State → Bool} {act : State → State}
    (hne : (State.answering (fun s => s.modeAction (ok s) act) s).line.mode ≠ s.line.mode) :
    ok s = true ∧ (State.answering (fun s => s.modeAction (ok s) act) s).line = (act s).line := by
  cases hok : ok s with
  | true => exact ⟨rfl, by simp [State.answering, State.modeAction, hok, State.modeResponse]⟩
  | false =>
    exact absurd (by simp [State.answering, State.modeAction, hok, State.modeResponse]) hne

theorem State.drainNow_mode (s : State) :
    s.drainNow.line.mode = .drain ∨ s.drainNow.line.mode = .stopped ∧ s.Cleared := by
  obtain hsame | ⟨-, hempty, hstopped⟩ := s.enterDrain.drainTest_eq
  · left
    rw [State.drainNow, hsame, State.enterDrain_mode]
  · right
    rw [State.drainNow, hstopped]
    refine ⟨rfl, s.lineEmpty_iff.mp ?_⟩
    have hrow : s.enterDrain.row = s.row := s.enterDrain_frame .row (by simp)
    have hexit : s.enterDrain.exit = s.exit := s.enterDrain_frame .exit (by simp)
    rwa [State.lineEmpty, hrow, hexit] at hempty

theorem State.leaveTrip_mode (s : State) :
    s.leaveTrip.line.mode = .hold ∧ s.leaveTrip.line.holdCause = some .afterTrip ∧ ¬ s.Cleared ∨
      s.leaveTrip.line.mode = .stopped ∧ s.Cleared := by
  simp only [State.leaveTrip]
  split
  · exact .inr ⟨rfl, s.lineEmpty_iff.mp ‹_›⟩
  · exact .inl ⟨rfl, rfl, fun hcleared => ‹¬ _› (s.lineEmpty_iff.mpr hcleared)⟩

/-- Settles O49: command by command, from a state that differs from `s` in link and pins only. -/
theorem lineModeFollowsTheTable : Obligations.LineModeFollowsTheTable := by
  unfold Obligations.LineModeFollowsTheTable
  intro i s t h hne
  obtain ⟨u, hu, ht⟩ := exec_cases h
  have hframe := hu.mono (quiet_subset i)
  have hline : u.line = s.line := hframe .line (by simp)
  have hcleared : u.Cleared ↔ s.Cleared := by
    have hrow : u.row = s.row := hframe .row (by simp)
    have hexit : u.exit = s.exit := hframe .exit (by simp)
    rw [State.Cleared, State.Cleared, hrow, hexit]
  obtain rfl | rfl := ht
  · exact absurd (by rw [hline]) hne
  by_cases htouch : .line ∈ touched i
  swap
  · exact absurd (by rw [effect_frame i u .line htouch, hline]) hne
  simp only [← hline, ← hcleared] at hne ⊢
  clear h hu hframe hline hcleared
  cases i with
  | powerOnReset edge =>
    cases edge with
    | held => exact hne rfl
    | released levels =>
      simp only [effect, State.releasePowerOn]
      split <;> rfl
  | ctrlResetAsserted => rfl
  | restart _ => rfl
  | restartRelease first => exact (u.releaseHeld_mode first).of_changed hne
  | setLine _ parts f =>
    refine absurd ?_ hne
    simp only [effect, State.answering, State.setLine]
    repeat' split
    all_goals simp [refuse, accept, State.storeParameters]
  | modeStart _ unnamed =>
    cases unnamed with
    | some b => exact absurd rfl hne
    | none =>
      refine ⟨rfl, ?_⟩
      revert hne
      simp only [effect, State.answering, State.modeStart, State.start]
      repeat' split
      case isFalse hmode _ _ _ =>
        exact fun _ => ⟨not_not.mp hmode, u.enterRun_mode⟩
      all_goals exact fun hne => absurd rfl hne
  | modeHold c =>
    obtain ⟨hok, hact⟩ := State.modeAction_changed (ok := fun s => s.line.mode.pushing) hne
    rw [show (effect (.modeHold c) u).line = _ from hact]
    exact ⟨(LineMode.pushing_iff _).mp hok, rfl, rfl⟩
  | modeResume c =>
    obtain ⟨hok, hact⟩ :=
      State.modeAction_changed (ok := fun s => s.line.mode = .hold || s.line.mode = .drain) hne
    rw [show (effect (.modeResume c) u).line = _ from hact]
    exact ⟨by simpa using hok, u.enterRun_mode⟩
  | modeDrain c =>
    obtain ⟨hok, hact⟩ :=
      State.modeAction_changed (ok := fun s => s.line.mode = .run || s.line.mode = .hold) hne
    rw [show (effect (.modeDrain c) u).line = _ from hact]
    exact ⟨by simpa using hok, u.drainNow_mode⟩
  | modeTrip c =>
    obtain ⟨hok, hact⟩ := State.modeAction_changed (ok := fun s => s.line.mode.production) hne
    rw [show (effect (.modeTrip c) u).line = _ from hact]
    exact ⟨(LineMode.production_iff _).mp hok, rfl, rfl⟩
  | modeClearTrip _ =>
    revert hne
    simp only [effect, State.answering, State.clearTrip]
    repeat' split
    · exact fun hne => absurd rfl hne
    · exact fun hne => absurd rfl hne
    · exact fun _ => ⟨not_not.mp ‹¬ u.line.mode ≠ _›, u.leaveTrip_mode⟩
  | modeService c =>
    obtain ⟨hok, hact⟩ := State.modeAction_changed (ok := fun s => s.line.mode = .stopped) hne
    rw [show (effect (.modeService c) u).line = _ from hact]
    exact ⟨of_decide_eq_true hok, rfl⟩
  | modeLeaveService _ =>
    revert hne
    simp only [effect, State.answering, State.leaveService]
    repeat' split
    · exact fun hne => absurd rfl hne
    · exact fun hne => absurd rfl hne
    · exact fun _ => ⟨not_not.mp ‹¬ u.line.mode ≠ _›, rfl⟩
  | strokeEnd e =>
    revert hne
    simp only [effect, State.homeEdge]
    repeat' split
    · intro hne
      obtain hdrained | ⟨hpushing, hhold⟩ := u.endStroke_mode
      · exact .inl (hdrained.of_changed hne)
      · exact .inr ⟨(LineMode.pushing_iff _).mp hpushing, hhold⟩
    all_goals exact fun hne => absurd rfl hne
  | strokeTimerExpiry =>
    revert hne
    simp only [effect, State.expireStroke]
    repeat' split
    · exact fun hne => absurd rfl hne
    · exact fun _ => ⟨(LineMode.pushing_iff _).mp ‹_›, rfl, rfl⟩
    · exact fun hne => absurd rfl hne
  | autoHoldExpiry =>
    revert hne
    simp only [effect, State.expireAutoHold]
    repeat' split
    · exact fun hne => absurd rfl hne
    · exact fun _ => ⟨(LineMode.pushing_iff _).mp ‹_›, rfl, rfl⟩
    · exact fun hne => absurd rfl hne
  | feederFaultChange active =>
    revert hne
    simp only [effect, State.feederFaultChanged]
    repeat' split
    · exact fun _ => ⟨‹_›, (LineMode.production_iff _).mp ‹_›, rfl, rfl⟩
    all_goals exact fun hne => absurd rfl hne
  | pressDoneEdge e =>
    revert hne
    simp only [effect, State.pressDone]
    repeat' split
    · exact (u.endTransfer_mode _).of_changed
    all_goals exact fun hne => absurd rfl hne
  | chuteDoneEdge e =>
    revert hne
    simp only [effect, State.chuteDone]
    repeat' split
    · exact (u.endTransfer_mode _).of_changed
    all_goals exact fun hne => absurd rfl hne
  | transferTimerExpiry =>
    revert hne
    simp only [effect, State.expireTransfer]
    repeat' split
    · exact fun hne => absurd rfl hne
    · exact ((State.endTransfer_mode _ _).of_mode rfl).of_changed
    · exact fun hne => absurd rfl hne
  | pressReadyChange active =>
    refine absurd ?_ hne
    simp only [effect, State.pressReadyChanged]
    repeat' split
    · rfl
    · exact u.startAutoHold_mode
    · rfl
  | _ => simp [touched] at htouch

/-! ## Holds (R165, R167, R182) -/

/-- Settles O3: in a hold `event` is the identity and `transaction` shifts out the empty response. -/
theorem holdTakesNoEvent : Obligations.HoldTakesNoEvent := by
  unfold Obligations.HoldTakesNoEvent
  intro i s hheld hreset hrelease
  cases hbytes : transactionBytes i with
  | some c =>
    have hlost : exec i s = .next (if c = 0 then s else s.shiftEmpty c) :=
      (exec_transaction hbytes s).trans (State.transaction_held hheld _)
    rw [hlost]
    cases i with
    | powerOnReset edge => exact absurd rfl (hreset edge)
    | restartRelease first => exact absurd rfl (hrelease first)
    | _ => cases hbytes <;> cases c <;> rfl
  | none =>
    have hlost : exec i s = .next { s with pins := pinsAfter s.pins i } :=
      (exec_event hbytes s hreset hrelease).trans (State.event_held (by exact hheld) _)
    rw [hlost]
    cases i with
    | powerOnReset edge => exact absurd rfl (hreset edge)
    | restartRelease first => exact absurd rfl (hrelease first)
    | strokeBegin e => simp only [pinsAfter, transitionLevel_eq]
    | strokeEnd e => simp only [pinsAfter, transitionLevel_eq]
    | takeEdge e => simp only [pinsAfter, transitionLevel_eq]
    | pressDoneEdge e => simp only [pinsAfter, transitionLevel_eq]
    | chuteDoneEdge e => simp only [pinsAfter, transitionLevel_eq]
    | _ => cases hbytes <;> rfl

end Sys2Proof.Machine
end

section
/-! PROOFS. Requests that look up, read or create: the row's length, the lookups, the entries, the records
and the learned part (R14 to R18, R21, R34 to R36, R60, R100). -/

namespace Sys2Proof.Machine

/-! ## A request taken, by the state its act leaves (R172, R175) -/

/-- A response put into the buffer, where the link stands as the settled fetch left it but for its
attention flags. -/
theorem State.respond_flags {s t : State} {c : Nat} {flags : BitVec 10} (r : Response)
    (hlink : t.link = { (s.settleFetch c).link with flags := flags }) :
    t.respond r = { t with link := { s.link.answered c r with flags := flags } } := by
  have key := congrArg State.link (State.settleFetch_respond s c r)
  simp only [State.respond, State.answered, hlink] at key ⊢
  rw [← key]

theorem State.respond_eq {s t : State} {c : Nat} (r : Response)
    (hlink : t.link = (s.settleFetch c).link) :
    t.respond r = { t with link := s.link.answered c r } := by
  rw [← State.respond_link c r hlink]
  rfl

/-- A request that leaves the link as the settled fetch did. -/
theorem State.request_of_change {s t : State} {c : Nat} {r : Response} (h : s.Taking c)
    (act : State → Response × State) (ha : act (s.settleFetch c) = (r, t))
    (hlink : t.link = (s.settleFetch c).link) :
    s.request c act = .next { t with link := s.link.answered c r } := by
  rw [State.request_taking h, ha, ← State.respond_eq r hlink]

/-- A request that changes the attention flags too. -/
theorem State.request_of_flags {s t : State} {c : Nat} {r : Response} {flags : BitVec 10}
    (h : s.Taking c) (act : State → Response × State) (ha : act (s.settleFetch c) = (r, t))
    (hlink : t.link = { (s.settleFetch c).link with flags := flags }) :
    s.request c act = .next { t with link := { s.link.answered c r with flags := flags } } := by
  rw [State.request_taking h, ha, ← State.respond_flags r hlink]

@[simp] theorem State.settleFetch_lookup (s : State) (c tag : Nat) :
    (s.settleFetch c).lookup tag = s.lookup tag := rfl

@[simp] theorem State.settleFetch_enabledZones (s : State) (c : Nat) :
    (s.settleFetch c).enabledZones = s.enabledZones := rfl

/-! ## SET_ROW_LENGTH (R60) -/

theorem LineMode.not_idle_iff (m : LineMode) : m.idle = false ↔ m ≠ .stopped ∧ m ≠ .service := by
  cases m <;> simp [LineMode.idle]

theorem State.enabledZones_any (s : State) (value : Nat) :
    (s.enabledZones.any fun z => value ≤ s.zones[z].map.lastPos) = true ↔
      ∃ z : ZoneId, s.zones[z].map.enabled = true ∧ value ≤ s.zones[z].map.lastPos := by
  simp [State.enabledZones]

theorem State.setRowLength_eq (s : State) (value : Nat) :
    s.setRowLength value =
      if s.line.mode ≠ .stopped ∧ s.line.mode ≠ .service then refuse .wrongMode s
      else if value < 4 ∨ 40 < value then refuse .badValue s
      else if ∃ z : ZoneId, s.zones[z].map.enabled = true ∧ value ≤ s.zones[z].map.lastPos then
        refuse .badValue s
      else accept (.rowLength value) { s with row := { s.row with length := value } } := by
  simp only [State.setRowLength, Bool.not_eq_true', LineMode.not_idle_iff, Bool.or_eq_true,
    decide_eq_true_eq, State.enabledZones_any]

/-- Settles O22: the branches of `State.setRowLength_eq`. -/
theorem rowLengthChecked : Obligations.RowLengthChecked := by
  unfold Obligations.RowLengthChecked
  intro s c value h refused
  have hrequest : exec (.setRowLength c value) s = s.request c fun s => s.setRowLength value := rfl
  have hact := (s.settleFetch c).setRowLength_eq value
  simp only [refused, hrequest]
  split <;> rename_i hmode
  · exact State.request_of_unchanged h (hact.trans (if_pos hmode))
  replace hact := hact.trans (if_neg hmode)
  split <;> rename_i hvalue
  · exact State.request_of_unchanged h (hact.trans (if_pos hvalue))
  replace hact := hact.trans (if_neg hvalue)
  split <;> rename_i hzones
  · exact State.request_of_unchanged h (hact.trans (if_pos hzones))
  · exact State.request_of_change h (fun s => s.setRowLength value) (hact.trans (if_neg hzones)) rfl

/-! ## The lookups (R14, R15) -/

theorem RowTracker.positions_take (row : RowTracker) (h : row.length ≤ 40) :
    row.positions.toList.take row.length = (List.range row.length).map row.tagAt := by
  refine List.ext_getElem (by simpa using h) fun p hp hp' => ?_
  have hlt : p < 40 := by simp at hp; omega
  simp [RowTracker.tagAt, hlt]

/-- Settles O9: each lookup reads the state as the settled fetch leaves it. -/
theorem lookupsAnswer : Obligations.LookupsAnswer := by
  unfold Obligations.LookupsAnswer
  intro s c h htags hlength
  have hquery : ∀ tag, exec (.queryBillet c tag) s = s.request c fun s => s.queryBillet tag :=
    fun _ => rfl
  refine ⟨fun r hr => ?_, fun tag hnone => ?_, fun p => ?_, ?_⟩
  · refine (hquery r.tag).trans (State.request_of_unchanged h ?_)
    simp only [State.queryBillet, State.settleFetch_lookup, State.lookup_of_mem htags hr]
    rfl
  · refine (hquery tag).trans (State.request_of_unchanged h ?_)
    simp only [State.queryBillet, State.settleFetch_lookup, State.lookup_none hnone]
    rfl
  · have hposition : exec (.queryPosition c p) s = s.request c fun s => s.queryPosition p := rfl
    refine hposition.trans (State.request_of_unchanged h ?_)
    by_cases hp : p < s.row.length <;>
      simp only [State.queryPosition, State.settleFetch_row, hp, if_true, if_false] <;> rfl
  · have hrow : exec (.queryRow c) s = s.request c fun s => accept (.tags s.rowTags) s := rfl
    rw [hrow, State.request_of_read (fun s => .tags s.rowTags) h]
    have htagsEq : (s.settleFetch c).rowTags =
        ((List.range s.row.length).map fun p => (s.row.tagAt p).getD 0) ++ [s.exit.slot.getD 0] := by
      simp only [State.rowTags, State.settleFetch_row, State.settleFetch_exit,
        s.row.positions_take hlength, List.map_map]
      rfl
    rw [htagsEq]

/-! ## READ_RECIPE, READ_ZONE and READ_LAST_RETIRED (R21, R34, R100) -/

@[simp] theorem zoneOf_val (z : ZoneId) : zoneOf z.val = some z := by
  simp [zoneOf]

theorem zoneOf_eq_none {n : Nat} (h : 12 ≤ n) : zoneOf n = none := by
  simp [zoneOf, Nat.not_lt.mpr h]

/-- Settles O13. -/
theorem entriesReadAsTheyStand : Obligations.EntriesReadAsTheyStand := by
  unfold Obligations.EntriesReadAsTheyStand
  intro s c n h answers retired
  have hrecipe : exec (.readRecipe c n) s = s.request c fun s => s.readRecipe n := rfl
  have hzone : exec (.readZone c n) s = s.request c fun s => s.readZone n := rfl
  have hretired : exec (.readLastRetired c n) s = s.request c fun s => s.readLastRetired n := by
    rw [exec_transaction (c := c) rfl, State.request]
    rfl
  refine ⟨?_, fun hn => ?_, ?_, fun hn => ?_, ?_, ?_, fun hn => ?_⟩
  · rintro k rfl
    refine hrecipe.trans (State.request_of_unchanged h ?_)
    simp only [State.readRecipe, recipeOf_val]
    rfl
  · refine hrecipe.trans (State.request_of_unchanged h ?_)
    simp only [State.readRecipe, recipeOf_eq_none hn]
    rfl
  · rintro z rfl
    refine hzone.trans (State.request_of_unchanged h ?_)
    simp only [State.readZone, zoneOf_val]
    rfl
  · refine hzone.trans (State.request_of_unchanged h ?_)
    simp only [State.readZone, zoneOf_eq_none hn]
    rfl
  · rintro rfl
    exact hretired.trans (State.request_of_unchanged h rfl)
  · rintro rfl
    exact hretired.trans (State.request_of_change h (fun s => s.readLastRetired 1) rfl rfl)
  · refine hretired.trans (State.request_of_unchanged h ?_)
    simp only [State.readLastRetired, yesNoOf_eq_none hn]
    rfl

/-! ## RESET_BIAS and ADAPTATION_UPDATE (R35, R36) -/

/-- Settles O16. -/
theorem learnedPartMovesAndResets : Obligations.LearnedPartMovesAndResets := by
  unfold Obligations.LearnedPartMovesAndResets
  refine ⟨fun s c n h => ?_, fun s k diff rest hopen hupdates => ?_⟩
  · have hreset : exec (.resetBias c n) s = s.request c fun s => s.resetBias n := rfl
    refine ⟨?_, ?_, fun hn hall => ?_⟩
    · rintro k rfl
      have hne : (k : Nat) ≠ 255 := by omega
      refine hreset.trans (State.request_of_change h (fun s => s.resetBias k)
        (t := (s.settleFetch c).modifyRecipe k .forget) ?_ rfl)
      simp only [State.resetBias, allRecipes, if_neg hne, recipeOf_val]
      rfl
    · rintro rfl
      have hforget : (Vector.ofFn fun k : RecipeId => s.recipes[k].forget) =
          s.recipes.map fun e => { e with bias := 0, adaptCount := 0 } := by
        ext k hk
        simp [Recipe.forget]
      have hlist : (s.recipes.toList.map fun e => (e.bias, e.adaptCount)) =
          (List.finRange 16).map fun k => (s.recipes[k].bias, s.recipes[k].adaptCount) := by
        refine List.ext_getElem (by simp) fun k hk hk' => ?_
        simp
      rw [← hforget, ← hlist]
      exact hreset.trans (State.request_of_change h (fun s => s.resetBias 255) rfl rfl)
    · refine hreset.trans (State.request_of_unchanged h ?_)
      simp only [State.resetBias, allRecipes, if_neg hall, recipeOf_eq_none hn]
      rfl
  · have hevent : exec .adaptationUpdate s = s.event State.takeUpdate := rfl
    rw [hevent, State.event_open hopen]
    simp only [State.takeUpdate, hupdates]
    split <;> rfl

/-! ## WITHDRAW_BILLET (R18, R19) -/

theorem State.withdraw_queued {s : State} {tag : Nat} {r : BilletRecord}
    (h : s.lookup tag = some r) (hqueued : r.place = .queued) :
    s.withdraw tag = accept .none (State.retire { s with
      pool := { s.pool with queue := s.pool.queue.filter fun x => x != tag } } tag .withdrawn) := by
  simp only [State.withdraw, h, if_pos hqueued]

/-- Settles O12: `State.retire_of_lookup` on the record the tag finds. -/
theorem withdrawRetiresQueuedRecords : Obligations.WithdrawRetiresQueuedRecords := by
  unfold Obligations.WithdrawRetiresQueuedRecords
  intro s c tag h htags
  have hrequest : exec (.withdrawBillet c tag) s = s.request c fun s => s.withdraw tag := rfl
  refine ⟨fun hnone => ?_, ?_⟩
  · refine hrequest.trans (State.request_of_unchanged h ?_)
    simp only [State.withdraw, State.settleFetch_lookup, State.lookup_none hnone]
    rfl
  rintro r hr rfl
  have hlookup := State.lookup_of_mem htags hr
  split
  · rename_i hqueued
    have hretire := State.retire_of_lookup (s := { s.settleFetch c with
      pool := { s.pool with queue := s.pool.queue.filter fun x => x != r.tag } }) .withdrawn hlookup
    have hact := (State.withdraw_queued (s := s.settleFetch c) hlookup hqueued).trans
      (congrArg (accept .none) hretire)
    exact hrequest.trans (State.request_of_flags h (fun s => s.withdraw r.tag) hact rfl)
  · refine hrequest.trans (State.request_of_unchanged h ?_)
    simp only [State.withdraw, State.settleFetch_lookup, hlookup, if_neg ‹_›]
    rfl

end Sys2Proof.Machine
end

section
/-! PROOFS. LOAD_BILLET and AMEND_BILLET as commands (R11, R12, R16, R17). -/

namespace Sys2Proof.Machine

/-! ## The recipe a request names (R11, R16) -/

theorem recipeOf_eq_some {n : Nat} {k : RecipeId} : recipeOf n = some k ↔ k.val = n := by
  unfold recipeOf
  split
  · rw [Option.some.injEq, Fin.ext_iff]
    exact eq_comm
  · exact iff_of_false nofun fun h => ‹¬ _› (h ▸ k.isLt)

theorem State.validRecipe_eq_some {s : State} {n : Nat} {k : RecipeId} :
    s.validRecipe n = some k ↔ k.val = n ∧ s.recipes[k].valid = true := by
  rw [State.validRecipe, Option.filter_eq_some_iff, recipeOf_eq_some]

theorem State.validRecipe_eq_none {s : State} {n : Nat} :
    s.validRecipe n = none ↔ ¬ ∃ k : RecipeId, k.val = n ∧ s.recipes[k].valid = true := by
  simp only [Option.eq_none_iff_forall_ne_some, ne_eq, State.validRecipe_eq_some, not_exists]

/-! ## LOAD_BILLET (R11, R12) -/

section
variable {s : State} {tag recipe mass initial : Nat}

theorem State.load_badTag (h : tag < 1 ∨ 65535 < tag) :
    s.load tag recipe mass initial = refuse .badValue s := by
  rw [State.load, if_pos (by simpa [Nat.lt_one_iff] using h)]

theorem State.load_badMass (htag : ¬ (tag < 1 ∨ 65535 < tag)) (h : mass < 500 ∨ 250000 < mass) :
    s.load tag recipe mass initial = refuse .badValue s := by
  rw [State.load, if_neg (by simpa [Nat.lt_one_iff] using htag), if_pos (by simpa using h)]

theorem State.load_badRecipe (htag : ¬ (tag < 1 ∨ 65535 < tag)) (hmass : ¬ (mass < 500 ∨ 250000 < mass))
    (h : s.validRecipe recipe = none) : s.load tag recipe mass initial = refuse .badValue s := by
  rw [State.load, if_neg (by simpa [Nat.lt_one_iff] using htag), if_neg (by simpa using hmass)]
  simp only [h]

/-- LOAD_BILLET with tag, mass and recipe in order: the tag's use, the queue's room, the creation. -/
theorem State.load_checked (htag : ¬ (tag < 1 ∨ 65535 < tag))
    (hmass : ¬ (mass < 500 ∨ 250000 < mass)) {k : RecipeId} (h : s.validRecipe recipe = some k) :
    s.load tag recipe mass initial =
      if ∃ r ∈ s.pool.records, r.tag = tag then refuse .tagInUse s
      else if 8 ≤ s.pool.queue.length then refuse .queueFull s
      else accept (.loadSeq (nextLoad s.pool.loadCounter)) (s.createRecord tag k mass initial) := by
  have huse : (s.lookup tag).isSome = true ↔ ∃ r ∈ s.pool.records, r.tag = tag := by
    rw [← not_iff_not, Option.not_isSome_iff_eq_none, State.lookup_eq_none_iff (by omega)]
    simp
  rw [State.load, if_neg (by simpa [Nat.lt_one_iff] using htag), if_neg (by simpa using hmass)]
  simp only [h, huse]

end

/-- Settles O10. -/
theorem loadBilletCreatesOrRefuses : Obligations.LoadBilletCreatesOrRefuses := by
  unfold Obligations.LoadBilletCreatesOrRefuses
  intro s c tag recipe mass initial h refused
  have hrequest : exec (.loadBillet c tag recipe mass initial) s =
      s.request c fun s => s.load tag recipe mass initial := rfl
  simp only [refused, hrequest]
  split <;> rename_i htag
  · exact State.request_of_unchanged h (State.load_badTag htag)
  split <;> rename_i hmass
  · exact State.request_of_unchanged h (State.load_badMass htag hmass)
  split <;> rename_i hrecipe
  · exact State.request_of_unchanged h
      (State.load_badRecipe htag hmass (State.validRecipe_eq_none (s := s.settleFetch c).mpr hrecipe))
  obtain ⟨k, hk⟩ := not_not.mp hrecipe
  have hact := State.load_checked (s := s.settleFetch c) (initial := initial) htag hmass
    (State.validRecipe_eq_some.mpr hk)
  split <;> rename_i huse
  · exact State.request_of_unchanged h (hact.trans (if_pos huse))
  replace hact := hact.trans (if_neg huse)
  split <;> rename_i hroom
  · exact State.request_of_unchanged h (hact.trans (if_pos hroom))
  refine ⟨k, nextLoad s.pool.loadCounter, hk.1, rfl, ?_⟩
  exact State.request_of_change h (fun s => s.load tag recipe mass initial)
    (hact.trans (if_neg hroom)) rfl

/-! ## AMEND_BILLET (R16, R17) -/

section
variable {s : State} {tag parts recipe : Nat} {r : BilletRecord}

theorem State.amendChecks_noTag (h : s.lookup tag = none) :
    s.amendChecks tag parts recipe = .error .noSuchTag := by
  simp only [State.amendChecks, h]

theorem State.amendChecks_noRecipePart (h : s.lookup tag = some r) (hpart : parts.testBit 2 = false) :
    s.amendChecks tag parts recipe = .ok (r, none) := by
  simp [State.amendChecks, h, hasPart, hpart]

theorem State.amendChecks_wrongPlace (h : s.lookup tag = some r) (hpart : parts.testBit 2 = true)
    (hplace : r.place ≠ .queued) : s.amendChecks tag parts recipe = .error .wrongPlace := by
  simp [State.amendChecks, h, hasPart, hpart, hplace]

theorem State.amendChecks_badRecipe (h : s.lookup tag = some r) (hpart : parts.testBit 2 = true)
    (hplace : r.place = .queued) (hrecipe : s.validRecipe recipe = none) :
    s.amendChecks tag parts recipe = .error .badValue := by
  simp [State.amendChecks, h, hasPart, hpart, hplace, hrecipe]

theorem State.amendChecks_recipe (h : s.lookup tag = some r) (hpart : parts.testBit 2 = true)
    (hplace : r.place = .queued) {k : RecipeId} (hrecipe : s.validRecipe recipe = some k) :
    s.amendChecks tag parts recipe = .ok (r, some k) := by
  simp [State.amendChecks, h, hasPart, hpart, hplace, hrecipe]

theorem State.amendBillet_named {offset : Int} (h : parts < 8) :
    s.amendBillet tag parts offset recipe = s.amend tag parts offset recipe := by
  simp [State.amendBillet, amendPartsNamed, h]

theorem State.amend_error {offset : Int} {status : Status}
    (h : s.amendChecks tag parts recipe = .error status) :
    s.amend tag parts offset recipe = refuse status s := by
  simp only [State.amend, h]

theorem State.amend_ok {offset : Int} {k : Option RecipeId}
    (h : s.amendChecks tag parts recipe = .ok (r, k)) :
    s.amend tag parts offset recipe =
      accept (.snapshot ((s.applyAmend r parts offset k).snapshot (amendRecord parts offset k r)))
        (s.applyAmend r parts offset k) := by
  simp only [State.amend, h]

/-- An unnamed part is refused with BAD_VALUE, or with the status of the check that fails (section
11.3, log entry 6). -/
theorem State.amendBillet_unnamed {offset : Int} (h : 8 ≤ parts) :
    s.amendBillet tag parts offset recipe = refuse .badValue s ∨
      ∃ status, s.amendChecks tag parts recipe = .error status ∧
        s.amendBillet tag parts offset recipe = refuse status s := by
  have hparts : amendPartsNamed parts = false := by simpa [amendPartsNamed] using h
  rw [State.amendBillet, if_neg (by simp [hparts])]
  unfold State.amendUnnamed
  split
  · exact .inr ⟨_, ‹_›, rfl⟩
  · exact .inl rfl

end

theorem amendRecord_eq (parts : Nat) (offset : Int) (k : Option RecipeId) (r : BilletRecord) :
    amendRecord parts offset k r = { r with
      targetOffset := if parts.testBit 0 then max (-300) (min 300 offset) else r.targetOffset
      flags := { r.flags with marked := r.flags.marked || parts.testBit 1 }
      recipe := k.getD r.recipe } := by
  unfold amendRecord hasPart
  cases parts.testBit 1 with
  | true => simp [clampOffset, clampInt]
  | false => simp [clampOffset, clampInt]

theorem State.applyAmend_mail (s : State) (r : BilletRecord) (parts : Nat) (offset : Int)
    (k : Option RecipeId) :
    (s.applyAmend r parts offset k).mail = { s.mail with
      marks := s.mail.marks ++
        if parts.testBit 1 = true ∧ r.place = .exit then
          [{ tag := r.tag, loadSeq := r.loadSeq }] else [] } := by
  have huser : ∀ (u : State) old new, (u.moveUser old new).mail = u.mail := fun u old new =>
    u.moveUser_frame old new .mail (by simp)
  simp only [State.applyAmend, hasPart]
  by_cases hmark : parts.testBit 1 = true
  · by_cases hexit : r.place = .exit
    · simp [State.tellMark, hmark, hexit, huser]
    · simp [State.tellMark, hmark, hexit, huser]
  · simp [hmark, huser]

/-- The recipes after one record changed its recipe, entry by entry (R29). -/
theorem State.moveUser_entry (s : State) (old new k : RecipeId) :
    (s.moveUser old new).recipes[k] = { s.recipes[k] with
      users :=
        if old = new then s.recipes[k].users
        else if k = old then s.recipes[k].users - 1
        else if k = new then s.recipes[k].users + 1
        else s.recipes[k].users } := by
  unfold State.moveUser
  by_cases hsame : old = new
  · simp [hsame]
  rw [if_neg hsame, if_neg hsame]
  simp only [State.modifyRecipe]
  by_cases hnew : k = new
  · subst hnew
    rw [recipes_set_same, recipes_set_other _ (Ne.symm hsame), if_neg (Ne.symm hsame), if_pos rfl]
  · rw [recipes_set_other _ hnew]
    by_cases hold : k = old
    · subst hold
      rw [recipes_set_same, if_pos rfl]
    · rw [recipes_set_other _ hold, if_neg hold, if_neg hnew]

/-- Settles O11. -/
theorem amendBilletAppliesOrRefuses : Obligations.AmendBilletAppliesOrRefuses := by
  unfold Obligations.AmendBilletAppliesOrRefuses
  intro s c tag parts offset recipe h htags refused
  have hrequest : exec (.amendBillet c tag parts offset recipe) s =
      s.request c fun s => s.amendBillet tag parts offset recipe := by
    rw [exec_transaction (c := c) rfl, State.request]
    rfl
  have hrefused : ∀ status, (s.settleFetch c).amendBillet tag parts offset recipe =
      refuse status (s.settleFetch c) → refused status := fun status hact =>
    hrequest.trans (State.request_of_unchanged h hact)
  have hfailed : ∀ status, parts < 8 →
      (s.settleFetch c).amendChecks tag parts recipe = .error status → refused status :=
    fun status hparts hchecks =>
      hrefused status ((State.amendBillet_named hparts).trans (State.amend_error hchecks))
  have hunnamed : 8 ≤ parts → refused .badValue ∨ ∃ status,
      (s.settleFetch c).amendChecks tag parts recipe = .error status ∧ refused status := fun hparts =>
    (State.amendBillet_unnamed hparts).imp (hrefused _) fun ⟨status, hchecks, hact⟩ =>
      ⟨status, hchecks, hrefused status hact⟩
  have hlive : ∀ r ∈ s.pool.records, (s.settleFetch c).lookup r.tag = some r := fun r hr =>
    State.lookup_of_mem htags hr
  refine ⟨fun hparts hnone => ?_, ?_, fun hparts hnone => ?_, ?_⟩
  · obtain hbad | ⟨status, hchecks, hstatus⟩ := hunnamed hparts
    · exact .inl hbad
    · rw [State.amendChecks_noTag (s := s.settleFetch c) (State.lookup_none hnone)] at hchecks
      cases hchecks
      exact .inr hstatus
  · rintro hparts r hr rfl
    cases hpart : parts.testBit 2 with
    | false =>
      rw [if_neg (by simp)]
      refine (hunnamed hparts).resolve_right ?_
      rintro ⟨status, hchecks, -⟩
      rw [State.amendChecks_noRecipePart (hlive r hr) hpart] at hchecks
      cases hchecks
    | true =>
      by_cases hplace : r.place = .queued
      · rw [if_neg (by simp [hplace])]
        obtain hbad | ⟨status, hchecks, hstatus⟩ := hunnamed hparts
        · exact hbad
        cases hrecipe : (s.settleFetch c).validRecipe recipe with
        | none =>
          rw [State.amendChecks_badRecipe (hlive r hr) hpart hplace hrecipe] at hchecks
          cases hchecks
          exact hstatus
        | some k =>
          rw [State.amendChecks_recipe (hlive r hr) hpart hplace hrecipe] at hchecks
          cases hchecks
      · rw [if_pos ⟨rfl, hplace⟩]
        obtain hbad | ⟨status, hchecks, hstatus⟩ := hunnamed hparts
        · exact .inl hbad
        · rw [State.amendChecks_wrongPlace (hlive r hr) hpart hplace] at hchecks
          cases hchecks
          exact .inr hstatus
  · exact hfailed _ hparts (State.amendChecks_noTag (State.lookup_none hnone))
  rintro r hr rfl hparts
  refine ⟨fun hpart hplace => hfailed _ hparts (State.amendChecks_wrongPlace (hlive r hr) hpart hplace),
    fun hpart hplace hinvalid => hfailed _ hparts
      (State.amendChecks_badRecipe (hlive r hr) hpart hplace ?_), fun new hsome hnone => ?_⟩
  · refine State.validRecipe_eq_none.mpr ?_
    rintro ⟨k, hk, hvalid⟩
    exact Bool.false_ne_true ((hinvalid k hk).symm.trans hvalid)
  obtain ⟨k, hchecks, hnew⟩ : ∃ k, (s.settleFetch c).amendChecks r.tag parts recipe = .ok (r, k) ∧
      k.getD r.recipe = new := by
    cases hpart : parts.testBit 2 with
    | false => exact ⟨none, State.amendChecks_noRecipePart (hlive r hr) hpart, (hnone hpart).symm⟩
    | true =>
      obtain ⟨hplace, hk, hvalid⟩ := hsome hpart
      exact ⟨some new, State.amendChecks_recipe (hlive r hr) hpart hplace
        (State.validRecipe_eq_some.mpr ⟨hk, hvalid⟩), rfl⟩
  have hact := (State.amendBillet_named (offset := offset) hparts).trans (State.amend_ok hchecks)
  have hframe := (s.settleFetch c).applyAmend_frame r parts offset k
  have hrecord := amendRecord_eq parts offset k r
  rw [hnew] at hrecord
  refine ⟨_, _, rfl, hrequest.trans (State.request_of_change h
    (fun s => s.amendBillet r.tag parts offset recipe) hact (hframe .link (by simp))), ?_, fun j => ?_,
    ?_, ?_, ?_⟩
  · refine ((s.settleFetch c).applyAmend_pool r parts offset k).trans ?_
    rw [modify_eq_replace (s := s.settleFetch c) htags hr, hrecord]
    rfl
  · have hentry := (s.settleFetch c).moveUser_entry r.recipe new j
    rw [← hnew, ← (s.settleFetch c).applyAmend_recipes r parts offset k, hnew] at hentry
    exact hentry
  · exact (s.settleFetch c).applyAmend_mail r parts offset k
  · have hqueue : ((s.settleFetch c).applyAmend r parts offset k).pool.queue = s.pool.queue := by
      rw [State.applyAmend_pool]
      rfl
    simp only [State.snapshot, hqueue, hrecord]
  · have hlinked := hframe.mono (l' := [.pool, .recipes, .mail, .link]) (by simp)
    refine .trans (t := s.settleFetch c) (by simp [unchangedBut_iff]) (hlinked.trans ?_)
    simp [unchangedBut_iff]

end Sys2Proof.Machine
end

section
/-! PROOFS. The MODE actions, the line parameters and the level inputs (R151 to R162). -/

namespace Sys2Proof.Machine

/-! ## The timer of auto-hold, drain completion and the pointer, as values (R122, R154, R155) -/

theorem State.startAutoHold_eq (s : State) :
    s.startAutoHold = { s with
      line :=
        if s.line.autoHold = none ∧ s.pins.pressReady = false ∧ s.line.holdDelay ≠ 0 then
          { s.line with autoHold := some (s.clock.count + s.line.holdDelay) } else s.line } := by
  unfold State.startAutoHold
  split <;> rename_i h <;> simp only [Bool.and_eq_true, Option.isNone_iff_eq_none,
    Bool.not_eq_true', bne_iff_ne, ne_eq, and_assoc] at h
  · rw [if_pos h]
  · rw [if_neg h]

theorem State.drainTest_of_cleared {s : State} (hdrain : s.line.mode = .drain) (h : s.Cleared) :
    s.drainTest = s.enterStopped := by
  rw [State.drainTest, if_pos (by simp [hdrain, s.lineEmpty_iff.mpr h])]

theorem State.drainTest_of_not_cleared {s : State} (h : ¬ s.Cleared) : s.drainTest = s := by
  rw [State.drainTest, if_neg]
  simp only [Bool.and_eq_true, s.lineEmpty_iff, not_and]
  exact fun _ => h

theorem State.pointLowest_eq (s : State) :
    s.pointLowest = { s with tuner := { s.tuner with
      pointer := (List.finRange 12).find? fun z => s.zones[z].map.enabled } } := by
  rw [State.pointLowest, State.enabledZones, List.head?_filter]

/-! ## The response of MODE (R151) -/

/-- `t` with the link as the settled fetch leaves it, but for the attention flags. -/
def State.fetched (s : State) (c : Nat) (t : State) : State :=
  { t with link := { (s.settleFetch c).link with flags := t.link.flags } }

/-- The state a MODE request leaves: `t`, and its response with mode and causes as `t` has them. -/
def State.modeAnswered (s : State) (c : Nat) (t : State) (status : Status) : State :=
  { t with
    link := { s.link.answered c ⟨status, .mode t.line.mode t.line.tripCause t.line.holdCause⟩ with
      flags := t.link.flags } }

/-- A MODE request answers with mode and causes as they stand in the state it leaves. -/
theorem State.mode_answers {s t : State} {c : Nat} {status : Status} (h : s.Taking c)
    (act : State → Response × State)
    (hact : act (s.settleFetch c) = (s.fetched c t).modeResponse status) :
    s.request c act = .next (s.modeAnswered c t status) :=
  State.request_of_flags (t := s.fetched c t) (flags := t.link.flags) h act hact rfl

/-- A MODE action that is accepted, by the state its transition leaves. -/
theorem State.modeAction_answers {s t : State} {c : Nat} (h : s.Taking c) {ok : State → Bool}
    (act : State → State) (hok : ok (s.settleFetch c) = true)
    (hact : act (s.settleFetch c) = s.fetched c t) :
    (s.request c fun s => s.modeAction (ok s) act) = .next (s.modeAnswered c t .ok) :=
  State.mode_answers h _ (by rw [State.modeAction, if_pos hok, hact])

theorem State.modeAction_refuses {s : State} {c : Nat} (h : s.Taking c) {ok : State → Bool}
    (act : State → State) (hok : ok (s.settleFetch c) = false) :
    (s.request c fun s => s.modeAction (ok s) act) = .next (s.modeAnswered c s .wrongMode) :=
  State.mode_answers h _ (by rw [State.modeAction, hok]; rfl)

theorem mode_either_iff (m a b : LineMode) : (decide (m = a) || decide (m = b)) = true ↔
    m = a ∨ m = b := by
  simp

theorem mode_neither_iff (m a b : LineMode) : (decide (m = a) || decide (m = b)) = false ↔
    ¬ (m = a ∨ m = b) := by
  simp

section
variable (s : State)

theorem exec_modeStart (c : Nat) (unnamed : Option Nat) :
    exec (.modeStart c unnamed) s = s.request c fun s => s.modeStart unnamed := by
  rw [exec_transaction (c := c) rfl, State.request]
  rfl

theorem exec_modeHold (c : Nat) : exec (.modeHold c) s =
    s.request c fun s => s.modeAction s.line.mode.pushing fun s => s.enterHold .request := rfl

theorem exec_modeResume (c : Nat) : exec (.modeResume c) s =
    s.request c fun s => s.modeAction (s.line.mode = .hold || s.line.mode = .drain) State.enterRun := rfl

theorem exec_modeDrain (c : Nat) : exec (.modeDrain c) s =
    s.request c fun s => s.modeAction (s.line.mode = .run || s.line.mode = .hold) State.drainNow := rfl

theorem exec_modeTrip (c : Nat) : exec (.modeTrip c) s =
    s.request c fun s => s.modeAction s.line.mode.production fun s => s.enterTripped .request := rfl

theorem exec_modeClearTrip (c : Nat) :
    exec (.modeClearTrip c) s = s.request c State.clearTrip := rfl

theorem exec_modeService (c : Nat) : exec (.modeService c) s =
    s.request c fun s => s.modeAction (s.line.mode = .stopped) State.enterService := rfl

theorem exec_modeLeaveService (c : Nat) :
    exec (.modeLeaveService c) s = s.request c State.leaveService := rfl

end

/-! ## The entries made by MODE (R150, R153) -/

theorem State.enterRun_eq (s : State) :
    s.enterRun = { s with
      line :=
        if s.line.autoHold = none ∧ s.pins.pressReady = false ∧ s.line.holdDelay ≠ 0 then
          { s.line with mode := .run, autoHold := some (s.clock.count + s.line.holdDelay) }
        else { s.line with mode := .run }
      row := { s.row with cadenceCount := none, cadenceHistory := [] } } :=
  State.startAutoHold_eq _

theorem State.enterDrain_of_run {s : State} (h : s.line.mode = .run) :
    s.enterDrain = { s with line := { s.line with mode := .drain } } := by
  simp only [State.enterDrain, h, reduceCtorEq, if_false]

theorem State.enterDrain_of_hold {s : State} (h : s.line.mode = .hold) :
    s.enterDrain = { s with
      line :=
        if s.line.autoHold = none ∧ s.pins.pressReady = false ∧ s.line.holdDelay ≠ 0 then
          { s.line with mode := .drain, autoHold := some (s.clock.count + s.line.holdDelay) }
        else { s.line with mode := .drain } } := by
  simp only [State.enterDrain, h, if_true]
  exact State.startAutoHold_eq _

theorem State.enterDrain_cleared {s : State} : s.enterDrain.Cleared ↔ s.Cleared := by
  have hrow : s.enterDrain.row = s.row := s.enterDrain_frame .row (by simp)
  have hexit : s.enterDrain.exit = s.exit := s.enterDrain_frame .exit (by simp)
  rw [State.Cleared, hrow, hexit, State.Cleared]

theorem State.drainNow_of_cleared {s : State} (hmode : s.line.mode = .run ∨ s.line.mode = .hold)
    (h : s.Cleared) :
    s.drainNow = { s with line := { s.line with mode := .stopped, autoHold := none } } := by
  rw [State.drainNow, State.drainTest_of_cleared s.enterDrain_mode (State.enterDrain_cleared.mpr h)]
  obtain hrun | hhold := hmode
  · rw [State.enterDrain_of_run hrun]
    rfl
  · rw [State.enterDrain_of_hold hhold, State.enterStopped]
    split <;> rfl

theorem State.drainNow_of_not_cleared {s : State} (h : ¬ s.Cleared) : s.drainNow = s.enterDrain :=
  State.drainTest_of_not_cleared (mt State.enterDrain_cleared.mp h)

theorem LineMode.pushing_eq_false_iff (m : LineMode) :
    m.pushing = false ↔ ¬ (m = .run ∨ m = .drain) := by
  rw [← LineMode.pushing_iff, Bool.not_eq_true]

theorem State.enabledZones_isEmpty (s : State) :
    s.enabledZones.isEmpty = true ↔ ¬ ∃ z : ZoneId, s.zones[z].map.enabled = true := by
  simp [State.enabledZones, List.isEmpty_iff, List.filter_eq_nil_iff]

/-- Settles O47. -/
theorem modeActionsMoveTheLine : Obligations.ModeActionsMoveTheLine := by
  unfold Obligations.ModeActionsMoveTheLine
  intro s c h mode carries answers timed running stopped configured
  have hrun : (s.settleFetch c).enterRun = s.fetched c running := (State.enterRun_eq _).trans rfl
  have hunset : ¬ configured → (s.settleFetch c).enabledZones.isEmpty = true :=
    (State.enabledZones_isEmpty _).mpr
  have hset : configured → ¬ (s.settleFetch c).enabledZones.isEmpty = true := fun hconfigured he =>
    (State.enabledZones_isEmpty _).mp he hconfigured
  have hanswers : ∀ i t status, exec i s = .next (s.modeAnswered c t status) → answers i t status :=
    fun _ _ _ hexec => hexec
  have hstart : ∀ action t status,
      (s.settleFetch c).modeStart action = (s.fetched c t).modeResponse status →
      answers (.modeStart c action) t status := fun action t status hact =>
    hanswers _ _ _ ((exec_modeStart s c action).trans
      (State.mode_answers h (fun s => s.modeStart action) hact))
  have hleave : ∀ t status, (s.settleFetch c).leaveService = (s.fetched c t).modeResponse status →
      answers (.modeLeaveService c) t status := fun t status hact =>
    hanswers _ _ _ ((exec_modeLeaveService s c).trans (State.mode_answers h State.leaveService hact))
  refine ⟨fun b => hstart _ _ _ rfl, fun hmode => hstart _ _ _ (if_pos hmode),
    fun hmode hmissing => hstart _ _ _ ((if_neg (not_not.mpr hmode)).trans ?_),
    fun hmode hlimit hconfigured hlatch => hstart _ _ _ ((if_neg (not_not.mpr hmode)).trans
      ((if_neg hlimit).trans ((if_neg (hset hconfigured)).trans (if_pos hlatch)))),
    fun hmode hlimit hconfigured hlatch => hstart _ _ _ ((if_neg (not_not.mpr hmode)).trans
      ((if_neg hlimit).trans ((if_neg (hset hconfigured)).trans ?_))),
    fun hmode => hanswers _ _ _ ?_, fun hmode => hanswers _ _ _ ?_, fun hmode => hanswers _ _ _ ?_,
    fun hmode => hanswers _ _ _ ?_, fun hmode hcleared => hanswers _ _ _ ?_,
    fun hmode hcleared => hanswers _ _ _ ?_, fun hmode hcleared => hanswers _ _ _ ?_,
    fun hmode => hanswers _ _ _ ?_, fun hmode => hanswers _ _ _ ?_, fun hmode => hanswers _ _ _ ?_,
    fun hmode => hleave _ _ (if_pos hmode),
    fun hmode hrunning => hleave _ _ ((if_neg (not_not.mpr hmode)).trans (if_pos hrunning)),
    fun hmode hrunning => hleave _ _ ((if_neg (not_not.mpr hmode)).trans
      ((if_neg hrunning).trans ?_))⟩
  · obtain hlimit | hmissing := hmissing
    · exact if_pos hlimit
    · by_cases hlimit : s.feeder.feederLimit = 0
      · exact if_pos hlimit
      · exact (if_neg hlimit).trans (if_pos (hunset hmissing))
  · exact (if_neg (Bool.eq_false_iff.mp hlatch)).trans (congrArg (State.modeResponse · .ok) hrun)
  · exact (exec_modeHold s c).trans
      (State.modeAction_answers h _ ((LineMode.pushing_iff _).mpr hmode) rfl)
  · exact (exec_modeHold s c).trans
      (State.modeAction_refuses h _ ((LineMode.pushing_eq_false_iff _).mpr hmode))
  · exact (exec_modeResume s c).trans
      (State.modeAction_answers h _ ((mode_either_iff _ _ _).mpr hmode) hrun)
  · exact (exec_modeResume s c).trans
      (State.modeAction_refuses h _ ((mode_neither_iff _ _ _).mpr hmode))
  · exact (exec_modeDrain s c).trans (State.modeAction_answers h _
      ((mode_either_iff _ _ _).mpr hmode)
      ((State.drainNow_of_cleared (s := s.settleFetch c) hmode hcleared).trans rfl))
  · exact (exec_modeDrain s c).trans (State.modeAction_answers h _
      ((mode_either_iff _ _ _).mpr (.inl hmode))
      ((State.drainNow_of_not_cleared (s := s.settleFetch c) hcleared).trans
        ((State.enterDrain_of_run (s := s.settleFetch c) hmode).trans rfl)))
  · exact (exec_modeDrain s c).trans (State.modeAction_answers h _
      ((mode_either_iff _ _ _).mpr (.inr hmode))
      ((State.drainNow_of_not_cleared (s := s.settleFetch c) hcleared).trans
        ((State.enterDrain_of_hold (s := s.settleFetch c) hmode).trans rfl)))
  · exact (exec_modeDrain s c).trans
      (State.modeAction_refuses h _ ((mode_neither_iff _ _ _).mpr hmode))
  · exact (exec_modeService s c).trans
      (State.modeAction_answers h _ (decide_eq_true hmode) rfl)
  · exact (exec_modeService s c).trans (State.modeAction_refuses h _ (decide_eq_false hmode))
  · rw [State.pointLowest_eq]
    rfl

/-! ## TRIP and CLEAR_TRIP (R158, R159) -/

theorem State.enterTripped_taken (s : State) (cause : TripCause) :
    StopAllTaken s (s.enterTripped cause) :=
  State.stopAll_taken { s with
    line := { s.line with mode := .tripped, tripCause := some cause, autoHold := none } }

theorem LineMode.production_eq_false_iff (m : LineMode) :
    m.production = false ↔ m = .stopped ∨ m = .service ∨ m = .tripped := by
  cases m <;> simp [LineMode.production]

theorem State.leaveTrip_of_cleared {s : State} (h : s.Cleared) :
    s.leaveTrip = { s with
      line := { s.line with mode := .stopped, faultLatch := false, autoHold := none } } := by
  simp only [State.leaveTrip]
  exact (if_pos ((State.lineEmpty_iff _).mpr h)).trans rfl

theorem State.leaveTrip_of_not_cleared {s : State} (h : ¬ s.Cleared) :
    s.leaveTrip = { s with
      line := { s.line with
        mode := .hold, holdCause := some .afterTrip, faultLatch := false, autoHold := none }
      link := { s.link with flags := s.link.flags ||| 16 } } := by
  simp only [State.leaveTrip]
  exact (if_neg (mt (State.lineEmpty_iff _).mp h)).trans rfl

/-- Settles O48. -/
theorem tripAndClearTrip : Obligations.TripAndClearTrip := by
  unfold Obligations.TripAndClearTrip
  intro s c h mode carries clears
  have hclear : ∀ t status, (s.settleFetch c).clearTrip = (s.fetched c t).modeResponse status →
      exec (.modeClearTrip c) s = .next (s.modeAnswered c t status) := fun t status hact =>
    (exec_modeClearTrip s c).trans (State.mode_answers h State.clearTrip hact)
  refine ⟨fun hmode => ?_, fun hmode => ?_, fun hmode => hclear s _ (if_pos hmode),
    fun hmode hfault => hclear s _ ((if_neg (not_not.mpr hmode)).trans (if_pos hfault)),
    fun hmode hfault hcleared => ?_, fun hmode hfault hcleared => ?_⟩
  · refine ⟨s.modeAnswered c (s.enterTripped .request) .ok, (exec_modeTrip s c).trans
      (State.modeAction_answers h _ ((LineMode.production_iff _).mpr hmode) rfl),
      s.enterTripped_taken .request, rfl, rfl, ?_⟩
    exact (s.enterTripped_frame .request).trans (by simp [unchangedBut_iff, State.modeAnswered])
  · exact (exec_modeTrip s c).trans
      (State.modeAction_refuses h _ ((LineMode.production_eq_false_iff _).mpr hmode))
  · exact hclear { s with
      line := { s.line with mode := .stopped, faultLatch := false, autoHold := none } } .ok
      ((if_neg (not_not.mpr hmode)).trans ((if_neg (Bool.eq_false_iff.mp hfault)).trans
      (congrArg (State.modeResponse · .ok) ((State.leaveTrip_of_cleared (s := s.settleFetch c)
        hcleared).trans rfl))))
  · exact hclear { s with
      line := { s.line with
        mode := .hold, holdCause := some .afterTrip, faultLatch := false, autoHold := none }
      link := { s.link with flags := s.link.flags ||| 16 } } .ok
      ((if_neg (not_not.mpr hmode)).trans ((if_neg (Bool.eq_false_iff.mp hfault)).trans
        (congrArg (State.modeResponse · .ok) ((State.leaveTrip_of_not_cleared (s := s.settleFetch c)
          hcleared).trans rfl))))

/-! ## SET_LINE (R162) -/

theorem State.windowOvertakes_iff (s : State) (window : Nat) :
    s.windowOvertakes window = true ↔ ∃ z : ZoneId, s.zones[z].map.enabled = true ∧
      s.zones[z].tuningAge < s.tuner.window ∧ window ≤ s.zones[z].tuningAge := by
  simp [State.windowOvertakes, zones_toList, and_assoc]

theorem State.setLine_eq (s : State) (parts : Nat) (f : LineFields) :
    s.setLine parts f =
      if 127 < parts ∨ parts.testBit 0 = true ∧
          (newParameters parts f s.parameters).feederLimit < minimumSum s.zones then
        refuse .badValue s
      else accept (.parameters (newParameters parts f s.parameters))
        (s.storeParameters (newParameters parts f s.parameters)) := by
  simp only [State.setLine, hasPart]
  by_cases hnamed : 127 < parts
  · rw [if_pos (by simp [linePartsNamed]; omega), if_pos (.inl hnamed)]
  · rw [if_neg (by simp [linePartsNamed]; omega)]
    simp only [hnamed, false_or, Bool.and_eq_true, decide_eq_true_eq]

/-- Settles O50. -/
theorem setLineStoresOrRefuses : Obligations.SetLineStoresOrRefuses := by
  unfold Obligations.SetLineStoresOrRefuses
  intro s c parts f h part p minimums becomesOverdue
  have hrequest : exec (.setLine c parts f) s = s.request c fun s => s.setLine parts f := rfl
  have hp : newParameters parts f s.parameters = p := rfl
  have hminimums : minimumSum s.zones = minimums := minimumSum_eq s.zones
  have hact := (s.settleFetch c).setLine_eq parts f
  rw [hrequest]
  split <;> rename_i hrefused
  · exact State.request_of_unchanged h (hact.trans (if_pos (by rwa [← hminimums] at hrefused)))
  replace hact := hact.trans (if_neg (by rwa [← hminimums] at hrefused))
  have hstored : (s.settleFetch c).storeParameters p = { s.settleFetch c with
      feeder := { s.feeder with feederLimit := p.feederLimit }
      tuner := { s.tuner with window := p.tuningWindow }
      line := { s.line with
        nominalCadence := p.nominalCadence, queueLow := p.queueLow, tAmb := p.tAmb
        holdDelay := p.holdDelay, transferTimeout := p.transferTimeout }
      link := { (s.settleFetch c).link with
        flags := if becomesOverdue then s.link.flags ||| 128 else s.link.flags } } := by
    have hovertakes := (s.settleFetch c).windowOvertakes_iff p.tuningWindow
    unfold State.storeParameters State.raiseIf
    by_cases hoverdue : becomesOverdue
    · rw [if_pos (hovertakes.mpr hoverdue), if_pos hoverdue]
      rfl
    · rw [if_neg (mt hovertakes.mp hoverdue), if_neg hoverdue]
      rfl
  exact State.request_of_flags h (fun s => s.setLine parts f)
    (hact.trans (congrArg (accept (.parameters p)) hstored)) rfl

/-! ## PRESS_READY, auto-hold and FEEDER_FAULT (R155, R157) -/

/-- Settles O51. -/
theorem levelInputsActOnTheLine : Obligations.LevelInputsActOnTheLine := by
  unfold Obligations.LevelInputsActOnTheLine
  intro s h pushing production faulted
  have hpress : ∀ active, exec (.pressReadyChange active) s =
      .next (State.pressReadyChanged { s with pins := { s.pins with pressReady := active } } active) :=
    fun active => (State.event_open (s := { s with pins := { s.pins with pressReady := active } }) h
      (State.pressReadyChanged · active))
  have hfeeder : ∀ active, exec (.feederFaultChange active) s =
      .next (State.feederFaultChanged { s with pins := faulted active } active) :=
    fun active => (State.event_open (s := { s with pins := faulted active }) h
      (State.feederFaultChanged · active))
  have hproduction : s.line.mode.production = true ↔ production := LineMode.production_iff _
  refine ⟨hpress true, (hpress false).trans ?_, fun due hdue hpushing => ?_, fun hmode => ?_,
    fun hmode => ?_, (hfeeder false).trans ?_⟩
  · unfold State.pressReadyChanged
    rw [if_neg Bool.false_ne_true]
    by_cases hpushing : pushing
    · rw [if_pos ((LineMode.pushing_iff _).mpr hpushing), State.startAutoHold_eq]
      simp only [hpushing, true_and]
    · rw [if_neg (mt (LineMode.pushing_iff _).mp hpushing), if_neg fun hall => hpushing hall.1]
  · have hexpiry : exec .autoHoldExpiry s = .next s.expireAutoHold := State.event_open h _
    rw [hexpiry]
    simp only [State.expireAutoHold, hdue]
    rw [if_pos ((LineMode.pushing_iff _).mpr hpushing)]
    rfl
  · rw [hfeeder]
    simp only [State.feederFaultChanged, if_true]
    rw [if_neg (mt hproduction.mp hmode)]
  · have htripped : exec (.feederFaultChange true) s = .next (State.enterTripped { s with
        pins := faulted true, line := { s.line with faultLatch := true } } .feeder) := by
      rw [hfeeder]
      simp only [State.feederFaultChanged, if_true]
      rw [if_pos (hproduction.mpr hmode)]
    refine ⟨_, htripped, State.enterTripped_taken _ _, rfl, rfl, rfl, ?_⟩
    exact .trans (by simp [unchangedBut_iff]) ((State.enterTripped_frame _ _).mono (by simp))
  · unfold State.feederFaultChanged
    rw [if_neg Bool.false_ne_true]
    by_cases hidle : s.line.mode = .stopped ∨ s.line.mode = .service
    · rw [if_pos ((LineMode.idle_iff _).mpr hidle), if_pos hidle]
    · rw [if_neg (mt (LineMode.idle_iff _).mp hidle), if_neg hidle]

end Sys2Proof.Machine
end

section
/-! PROOFS. The zone channels' events: requests, grants, credits, orders, inverter reports and timers
(R82 to R91, R96, R97), and the stroke timer's expiry (R65). -/

namespace Sys2Proof.Machine

/-! ## A zone's channel, changed and changed again -/

theorem State.modifyZone_modifyZone (s : State) (z : ZoneId) (f g : ZoneChannel → ZoneChannel) :
    (s.modifyZone z f).modifyZone z g = s.modifyZone z fun c => g (f c) := by
  have hzone := s.modifyZone_same z f
  simp only [State.modifyZone] at hzone ⊢
  rw [hzone, Vector.set_set]

/-- A zone's message is the first one of its own in the channel. -/
theorem takeFirst_zone {α : Type} {z : ZoneId} {m : α} {before after : List (ZoneId × α)}
    (hbefore : ∀ x ∈ before, x.1 ≠ z) :
    takeFirst (fun m => m.1 == z) (before ++ (z, m) :: after) = some ((z, m), before ++ after) :=
  takeFirst_append (fun x hx => beq_false_of_ne (hbefore x hx)) (beq_self_eq_true z)

/-! ## SET_ZONE_BAND and CLEAR_ZONE_FAULT (R97, R90) -/

theorem bandOf_eq_none {b : Nat} (h : 1 < b) : bandOf b = none := by
  match b with
  | n + 2 => rfl

theorem bandOf_eq_some {b : Nat} (h : b ≤ 1) :
    bandOf b = some (if b = 0 then .low else .high) := by
  match b with
  | 0 | 1 => rfl

/-- Settles O28. -/
theorem zoneRequestsActByState : Obligations.ZoneRequestsActByState := by
  unfold Obligations.ZoneRequestsActByState
  intro s c n b h
  have hband : exec (.setZoneBand c n b) s = s.request c fun s => s.setZoneBand n b := rfl
  have hclear : exec (.clearZoneFault c n) s = s.request c fun s => s.clearZoneFault n := rfl
  refine ⟨fun hbad => ?_, fun hbad => ?_, ?_⟩
  · refine hband.trans (State.request_of_unchanged h ?_)
    simp only [State.setZoneBand]
    rcases hbad with hn | hb
    · rw [zoneOf_eq_none hn]
      rfl
    · rw [bandOf_eq_none hb]
      cases zoneOf n <;> rfl
  · refine hclear.trans (State.request_of_unchanged h ?_)
    simp only [State.clearZoneFault, zoneOf_eq_none hbad]
    rfl
  · rintro z rfl zone
    have hclears : ∀ {r : Response} {t : State},
        (s.settleFetch c).clearZoneFault z = (r, t) → t.link = (s.settleFetch c).link →
        exec (.clearZoneFault c z) s = .next { t with link := s.link.answered c r } :=
      fun hact hlink => State.request_of_change h (fun s => s.clearZoneFault z) hact hlink
    refine ⟨?_, fun hstate => ?_, fun hstate hreport => ?_, fun hstate hreport => ?_⟩
    · intro hb band
      let t := (s.settleFetch c).modifyZone z (.requestBand band)
      refine ⟨{ t with link := s.link.answered c ⟨.ok, .zone (t.zoneView z)⟩ },
        hband.trans (State.request_of_change h (fun s => s.setZoneBand z b) ?_ rfl),
        rfl, rfl, ?_⟩
      · simp only [State.setZoneBand, zoneOf_val, bandOf_eq_some hb]
        rfl
      · simp [t, unchangedBut_iff, State.modifyZone, State.settleFetch]
    · refine (hclears (t := s.settleFetch c) ?_ rfl).trans rfl
      simp only [State.clearZoneFault, zoneOf_val]
      exact (if_neg hstate).trans rfl
    · refine (hclears (t := s.settleFetch c) ?_ rfl).trans rfl
      simp only [State.clearZoneFault, zoneOf_val]
      exact (if_pos hstate).trans (if_pos hreport)
    · let t := (s.settleFetch c).enterStopping z
      refine ⟨{ t with link := s.link.answered c ⟨.ok, .zone (t.zoneView z)⟩ },
        hclears (t := t) ?_ rfl, rfl, rfl, rfl, ?_⟩
      · simp only [State.clearZoneFault, zoneOf_val]
        exact (if_pos hstate).trans (if_neg hreport)
      · simp [t, unchangedBut_iff, State.enterStopping, State.send, State.modifyZone,
          State.settleFetch]

/-! ## Grants (R91) -/

theorem State.actOnGrant_eq (s : State) (z : ZoneId) (kW : Nat) :
    s.actOnGrant z kW =
      if s.zones[z].state = .off then if kW = 0 then s else s.startZone z kW
      else if s.zones[z].state = .starting ∨ s.zones[z].state = .on then
        if kW = 0 then s.enterStopping z
        else s.modifyZone z fun c => { c with nextGrant := some kW }
      else s.discardGrant z := by
  unfold State.actOnGrant
  cases s.zones[z].state <;> simp

/-- Settles O29: each branch of `State.actOnGrant_eq` is the statement's by unfolding. -/
theorem grantActsByState : Obligations.GrantActsByState := by
  unfold Obligations.GrantActsByState
  intro s z kW before after hopen hgrants hbefore zone taken
  have hevent : exec (.grant z) s = .next (s.takeGrant z) :=
    State.event_open hopen fun s => s.takeGrant z
  have htake : s.takeGrant z = taken.actOnGrant z kW := by
    simp only [State.takeGrant, hgrants, takeFirst_zone hbefore]
    rfl
  rw [hevent, htake, State.actOnGrant_eq]
  rfl

/-! ## Idle credit and tune order (R96, R87) -/

/-- Settles O30. -/
theorem creditAndOrderTaken : Obligations.CreditAndOrderTaken := by
  unfold Obligations.CreditAndOrderTaken
  intro s z hopen
  refine ⟨fun joules before after hcredits hbefore => ?_, fun before after horders hbefore => ?_⟩
  · have hevent : exec (.idleCredit z) s = .next (s.takeCredit z) :=
      State.event_open hopen fun s => s.takeCredit z
    rw [hevent]
    simp only [State.takeCredit, hcredits, takeFirst_zone hbefore]
    rfl
  · have hevent : exec (.tuneOrder z) s = .next (s.takeOrder z) :=
      State.event_open hopen fun s => s.takeOrder z
    have htake : takeFirst (fun y => y == z) (before ++ z :: after) = some (z, before ++ after) :=
      takeFirst_append (fun x hx => beq_false_of_ne fun heq => hbefore (heq ▸ hx))
        (beq_self_eq_true z)
    rw [hevent]
    simp only [State.takeOrder, horders, htake]
    simp only [State.actOnOrder, Bool.and_eq_true, decide_eq_true_eq]
    rfl

/-! ## Inverter reports (R82, R85, R88, R89) -/

theorem State.noteReport_zone (s : State) (z : ZoneId) (k : ReportKind) :
    (s.noteReport z k).zones[z] = { s.zones[z] with lastReport := some k } :=
  s.modifyZone_same _ _

theorem State.strayAt_noteReport (s : State) (z : ZoneId) (k : ReportKind) :
    (s.noteReport z k).strayAt z = s.modifyZone z fun c => { c with
      lastReport := some k, strayReports := satAdd Config.counterMax c.strayReports 1 } :=
  s.modifyZone_modifyZone _ _ _

theorem State.takeRunning_eq (s : State) (z : ZoneId) :
    s.takeRunning z = s.modifyZone z fun c =>
      if c.state = .starting then { c with
        lastReport := some .running, state := .on, timer := none, onSince := some s.clock.count
        meteredBand := c.band }
      else { c with
        lastReport := some .running
        strayReports := satAdd Config.counterMax c.strayReports 1 } := by
  simp only [State.takeRunning, State.noteReport_zone]
  by_cases hstarting : s.zones[z].state = .starting
  · have hon : (s.noteReport z .running).turnOn z = _ := s.modifyZone_modifyZone _ _ _
    rw [if_pos hstarting, hon]
    simp only [State.modifyZone, if_pos hstarting]
    rfl
  · rw [if_neg hstarting, State.strayAt_noteReport]
    simp only [State.modifyZone, if_neg hstarting]

/-- An entry into FAULTED after the channel was written: what the state was decides the outcome. -/
theorem State.enterFaulted_modifyZone (s : State) (z : ZoneId) (f : ZoneChannel → ZoneChannel)
    (cause : FaultCause) (hstate : ∀ c, (f c).state = c.state) :
    (s.modifyZone z f).enterFaulted z cause = { s with
      zones := s.zones.set z (ZoneChannel.toFaulted cause (f s.zones[z]))
      link := { s.link with flags := s.link.flags ||| 4 }
      mail := { s.mail with outcomes :=
        s.mail.outcomes ++ if s.zones[z].state = .tuning then [(z, .failed)] else [] } } := by
  simp only [State.enterFaulted, State.modifyZone_same, hstate, State.modifyZone_modifyZone]
  by_cases htuning : s.zones[z].state = .tuning
  · simp only [htuning, if_true]
    rfl
  · simp only [htuning, if_false, List.append_nil]
    rfl

theorem State.enterFaulted_eq (s : State) (z : ZoneId) (cause : FaultCause) :
    s.enterFaulted z cause = { s with
      zones := s.zones.set z (ZoneChannel.toFaulted cause s.zones[z])
      link := { s.link with flags := s.link.flags ||| 4 }
      mail := { s.mail with outcomes :=
        s.mail.outcomes ++ if s.zones[z].state = .tuning then [(z, .failed)] else [] } } := by
  have hsame : s.modifyZone z id = s := by
    simp [State.modifyZone]
  have h := s.enterFaulted_modifyZone z id cause fun _ => rfl
  rwa [hsame] at h

theorem State.takeTuned_eq (s : State) (z : ZoneId) (eff : Nat) :
    s.takeTuned z eff =
      if s.zones[z].state ≠ .tuning then s.modifyZone z fun c => { c with
        lastReport := some .tuned
        strayReports := satAdd Config.counterMax c.strayReports 1 }
      else if 500 ≤ eff ∧ eff ≤ 980 then
        (s.modifyZone z fun c => { c.toOff with
          lastReport := some .tuned, eff := eff, tuningAge := 0 }).tellTuner z .succeeded
      else (s.noteReport z .tuned).enterFaulted z .tuneRange := by
  simp only [State.takeTuned, State.noteReport_zone]
  by_cases htuning : s.zones[z].state = .tuning
  · rw [if_pos htuning, if_neg (not_not.mpr htuning)]
    simp only [State.judgeTuned, Bool.and_eq_true, decide_eq_true_eq]
    rw [State.noteReport, State.modifyZone_modifyZone]
    rfl
  · rw [if_neg htuning, if_pos htuning, State.strayAt_noteReport]

/-- Settles O31. -/
theorem inverterReportsTaken : Obligations.InverterReportsTaken := by
  unfold Obligations.InverterReportsTaken
  intro s z hopen zone stray afterRunning
  refine ⟨?_, fun eff => ?_, fun code => ?_, State.event_open hopen fun s => s.noteReport z .healthy,
    State.event_open hopen fun s => s.strayAt z⟩
  · have hevent : exec (.inverterRunning z) s = .next (s.takeRunning z) :=
      State.event_open hopen fun s => s.takeRunning z
    rw [hevent, State.takeRunning_eq]
    rfl
  · have hevent : exec (.inverterTuned z eff) s = .next (s.takeTuned z eff) :=
      State.event_open hopen fun s => s.takeTuned z eff
    rw [hevent, State.takeTuned_eq]
    by_cases htuning : zone.state = .tuning
    · rw [if_neg (not_not.mpr htuning), if_neg (not_not.mpr htuning)]
      refine congrArg _ (if_congr Iff.rfl rfl ?_)
      have hfaulted := s.enterFaulted_modifyZone z
        (fun c => { c with lastReport := some .tuned }) .tuneRange fun _ => rfl
      rw [if_pos htuning] at hfaulted
      exact hfaulted
    · rw [if_pos htuning, if_pos htuning]
      rfl
  · have hevent : exec (.inverterFault z code) s = .next (s.takeFault z code) :=
      State.event_open hopen fun s => s.takeFault z code
    have hfault : s.takeFault z code = (s.modifyZone z fun c => { c with
        lastReport := some .fault, inverterCode := some code }).enterFaulted z .inverter :=
      congrArg (State.enterFaulted · z .inverter) (s.modifyZone_modifyZone _ _ _)
    rw [hevent, hfault]
    exact congrArg _ (s.enterFaulted_modifyZone z
      (fun c => { c with lastReport := some .fault, inverterCode := some code }) .inverter
      fun _ => rfl)

/-! ## The zones' timers (R85, R86, R88) -/

theorem State.expireZone_due {s : State} {z : ZoneId} {due : Nat} {runsIn : ZoneState}
    (htimer : s.zones[z].timer = some due) (hstate : s.zones[z].state = runsIn)
    (act : State → State) : s.expireZone z runsIn act = act (s.reach due) := by
  simp only [State.expireZone, htimer, hstate, if_true]

/-- Settles O32. -/
theorem zoneTimersExpire : Obligations.ZoneTimersExpire := by
  unfold Obligations.ZoneTimersExpire
  intro s z due hopen htimer u zone faulted
  have hreached : ∀ st, s.zones[z].state = st → u.zones[z].state = st := fun st hstate =>
    (s.reach_zone_state due z).trans hstate
  refine ⟨fun hstate => ?_, fun hstate => ?_, fun hstate => ?_⟩
  · have hevent : exec (.startTimeout z) s = .next (s.expireZone z .starting _) :=
      State.event_open hopen fun s => s.expireZone z .starting fun s => s.enterFaulted z .startTimeout
    rw [hevent, State.expireZone_due htimer hstate, State.enterFaulted_eq,
      if_neg (by rw [hreached _ hstate]; nofun), List.append_nil]
    rfl
  · have hevent : exec (.recoveryExpiry z) s = .next (s.expireZone z .stopping _) :=
      State.event_open hopen fun s => s.expireZone z .stopping fun s => s.modifyZone z .toOff
    rw [hevent, State.expireZone_due htimer hstate]
    rfl
  · have hevent : exec (.tuneTimeout z) s = .next (s.expireZone z .tuning _) :=
      State.event_open hopen fun s => s.expireZone z .tuning fun s => s.enterFaulted z .tuneTimeout
    rw [hevent, State.expireZone_due htimer hstate, State.enterFaulted_eq,
      if_pos (hreached _ hstate)]
    rfl

/-! ## The stroke timer (R65) -/

/-- Settles O26. -/
theorem strokeTimerExpires : Obligations.StrokeTimerExpires := by
  unfold Obligations.StrokeTimerExpires
  intro s due hopen hdue u
  have hevent : exec .strokeTimerExpiry s = .next s.expireStroke := State.event_open hopen _
  rw [hevent]
  simp only [State.expireStroke, hdue]
  by_cases hpushing : s.line.mode = .run ∨ s.line.mode = .drain
  · rw [if_pos hpushing, if_pos hpushing]
    exact congrArg _ (if_pos ((LineMode.pushing_iff _).mpr hpushing))
  · rw [if_neg hpushing, if_neg hpushing]
    exact congrArg _ (if_neg (mt (LineMode.pushing_iff _).mp hpushing))

end Sys2Proof.Machine
end

section
/-! PROOFS. SET_ZONE (R79, R80), the link's registers (R179 to R181) and the passing of time (R93,
R164). -/

namespace Sys2Proof.Machine

/-! ## SET_ZONE's numbers and choices (R79, check 3) -/

theorem levelOf_eq_none {n : Nat} (h : 3 < n) : levelOf n = none :=
  dif_neg (by omega)

theorem zoneChoices_eq_none {n : Nat} {f : ZoneFields}
    (h : 11 < n ∨ 3 < f.level ∨ 1 < f.enabled ∨ 1 < f.band) : zoneChoices n f = none := by
  unfold zoneChoices
  rcases h with hn | hlevel | henabled | hband
  · rw [zoneOf_eq_none hn]
  · rw [levelOf_eq_none hlevel]
    cases zoneOf n <;> rfl
  · rw [yesNoOf_eq_none henabled]
    cases zoneOf n <;> cases levelOf f.level <;> rfl
  · rw [bandOf_eq_none hband]
    cases zoneOf n <;> cases levelOf f.level <;> cases yesNoOf f.enabled <;> rfl

theorem yesNoOf_eq_some {n : Nat} (h : n ≤ 1) : yesNoOf n = some (decide (n = 1)) := by
  match n with
  | 0 | 1 => rfl

theorem zoneChoices_eq_some {z : ZoneId} {level : Level} {f : ZoneFields}
    (hlevel : level.val = f.level) (henabled : f.enabled ≤ 1) (hband : f.band ≤ 1) :
    zoneChoices z f =
      some (z, level, decide (f.enabled = 1), if f.band = 0 then .low else .high) := by
  have hlevelOf : levelOf f.level = some level := by
    rw [← hlevel]
    exact dif_pos level.isLt
  simp only [zoneChoices, zoneOf_val, hlevelOf, yesNoOf_eq_some henabled, bandOf_eq_some hband]

/-! ## SET_ZONE's write (R80, R122, R124) -/

theorem minimumSum_of_maps {zones : Vector ZoneChannel 12} {mapOf : ZoneId → ZoneMap}
    (h : ∀ y : ZoneId, zones[y].map = mapOf y) :
    minimumSum zones =
      (((List.finRange 12).filter fun y => (mapOf y).enabled).map fun y => (mapOf y).minKW).sum := by
  simp only [minimumSum_eq, h]

/-- The twelve zones in ascending cyclic order after `z`. -/
theorem cyclicOrder_eq (z : ZoneId) :
    ((List.finRange 12).map fun k => z + k + 1) =
      (List.range 12).map fun k => Fin.ofNat 12 (z.val + 1 + k) := by
  refine List.ext_getElem (by simp) fun k hk hk' => Fin.ext ?_
  simp [Fin.val_add]
  omega

theorem overdueAfter_iff (s : State) (z : ZoneId) (m : ZoneMap) (band : Band) :
    (!s.zones[z].map.enabled && ZoneChannel.overdue
      { s.zones[z] with map := m, band := band, pendingBand := none } s.tuner.window) = true ↔
      s.zones[z].map.enabled = false ∧ m.enabled = true ∧ s.tuner.window ≤ s.zones[z].tuningAge := by
  simp [ZoneChannel.overdue]

/-- The write of an accepted SET_ZONE, before its tuning pointer is placed. -/
def State.zoneWritten (s : State) (z : ZoneId) (m : ZoneMap) (band : Band) : State :=
  { s with
    zones := s.zones.set z { s.zones[z] with map := m, band := band, pendingBand := none }
    link := { s.link with
      flags :=
        if s.zones[z].map.enabled = false ∧ m.enabled = true ∧
            s.tuner.window ≤ s.zones[z].tuningAge then s.link.flags ||| 128
        else s.link.flags } }

theorem State.writeZone_eq (s : State) (z : ZoneId) (m : ZoneMap) (band : Band) :
    s.writeZone z m band = (s.zoneWritten z m band).placePointer := by
  simp only [State.writeZone, State.modifyZone_same]
  refine congrArg State.placePointer ?_
  have hoverdue := overdueAfter_iff s z m band
  unfold State.raiseIf State.zoneWritten
  split <;> rename_i h
  · rw [if_pos (hoverdue.mp h)]
    rfl
  · rw [if_neg (mt hoverdue.mpr h)]
    rfl

theorem State.placePointer_of_none {s : State} (h : s.tuner.pointer = none) :
    s.placePointer = { s with tuner := { s.tuner with
      pointer := (List.finRange 12).find? fun y => s.zones[y].map.enabled } } := by
  simp only [State.placePointer, h, State.pointLowest_eq]

theorem State.placePointer_of_some {s : State} {p : ZoneId} (h : s.tuner.pointer = some p) :
    s.placePointer = { s with tuner := { s.tuner with
      pointer :=
        if s.zones[p].map.enabled then some p
        else ((List.range 12).map fun k => Fin.ofNat 12 (p.val + 1 + k)).find? fun y =>
          s.zones[y].map.enabled } } := by
  simp only [State.placePointer, h, State.nextEnabled, cyclicOrder_eq]
  split
  · rw [← h]
  · rfl

/-- Settles O27. -/
theorem setZoneWritesOrRefuses : Obligations.SetZoneWritesOrRefuses := by
  unfold Obligations.SetZoneWritesOrRefuses
  intro s c n f h refused
  have hrefused : ∀ {status}, (s.settleFetch c).setZoneMap n f = refuse status (s.settleFetch c) →
      refused status := fun hact => State.request_of_unchanged h (act := fun s => s.setZoneMap n f) hact
  have hrunning : (s.settleFetch c).setZoneMap n f = if !s.line.mode.idle then _ else _ := rfl
  split <;> rename_i hmode
  · exact hrefused (if_pos (congrArg (!·) ((LineMode.not_idle_iff _).mpr hmode)))
  replace hrunning := hrunning.trans
    (if_neg (by rw [← LineMode.not_idle_iff] at hmode; simpa using hmode))
  split <;> rename_i hall
  · exact hrefused (hrunning.trans (if_pos hall))
  replace hrunning := hrunning.trans (if_neg hall)
  split <;> rename_i hnumbers
  · rw [zoneChoices_eq_none hnumbers] at hrunning
    exact hrefused hrunning
  have hn : n < 12 := by omega
  have hl : f.level < 4 := by omega
  refine ⟨⟨n, hn⟩, ⟨f.level, hl⟩, rfl, rfl, ?_⟩
  generalize hz : (⟨n, hn⟩ : ZoneId) = z
  generalize hlevel : (⟨f.level, hl⟩ : Level) = level
  obtain rfl : z.val = n := by rw [← hz]
  replace hlevel : level.val = f.level := by rw [← hlevel]
  intro entry mapOf becomesOverdue
  rw [zoneChoices_eq_some hlevel (by omega) (by omega)] at hrunning
  replace hrunning : (s.settleFetch c).setZoneMap z f =
      if s.zones[z].state ≠ .off ∧ s.zones[z].state ≠ .faulted then _ else _ := hrunning
  split <;> rename_i hstate
  · exact hrefused (hrunning.trans (if_pos hstate))
  replace hrunning := hrunning.trans (if_neg hstate)
  have hallowed := (s.settleFetch c).entryAllowed_iff z entry
  have hforbidden : ¬ (s.settleFetch c).entryAllowed z entry = true → refused .badValue :=
    fun hnot => hrefused (hrunning.trans (if_neg hnot))
  split <;> rename_i hpositions
  · refine hforbidden fun hallow => ?_
    obtain ⟨hrange, -⟩ := hallowed.mp hallow
    exact hpositions.elim (Nat.not_lt.mpr hrange.1) (Nat.not_lt.mpr hrange.2)
  split <;> rename_i hpower
  · refine hforbidden fun hallow => ?_
    obtain ⟨-, hrange, -⟩ := hallowed.mp hallow
    exact hpower.elim (Nat.not_lt.mpr hrange.1) (Nat.not_lt.mpr hrange.2)
  split <;> rename_i hrow
  · refine hforbidden fun hallow => ?_
    obtain ⟨-, -, hwithin, -⟩ := hallowed.mp hallow
    exact Nat.not_lt.mpr hrow.2 (hwithin hrow.1)
  split <;> rename_i hoverlap
  · refine hforbidden fun hallow => ?_
    obtain ⟨-, -, -, hdisjoint, -⟩ := hallowed.mp hallow
    obtain ⟨henabled, y, hy, hyenabled, hfirst, hlast⟩ := hoverlap
    exact (hdisjoint henabled y hy hyenabled).elim (Nat.not_lt.mpr hlast) (Nat.not_lt.mpr hfirst)
  have hmaps : ∀ y : ZoneId, (s.zones.set z { s.zones[z] with map := entry })[y].map = mapOf y :=
    fun y => zones_map_set _ _ _ _
  have hsum := minimumSum_of_maps hmaps
  split <;> rename_i hlimit
  · refine hforbidden fun hallow => ?_
    obtain ⟨-, -, -, -, hguard⟩ := hallowed.mp hallow
    rw [← hsum] at hlimit
    exact hguard.elim hlimit.1 (Nat.not_le.mpr hlimit.2)
  have hallow : (s.settleFetch c).entryAllowed z entry = true := by
    have hrange : f.firstPos ≤ f.lastPos ∧ f.lastPos ≤ 39 := by omega
    have hminimum : 5 ≤ f.minKW ∧ f.minKW ≤ entry.maxKW := by omega
    refine hallowed.mpr ⟨hrange, hminimum, fun henabled => ?_, fun henabled y hy hyenabled => ?_, ?_⟩
    · exact Nat.lt_of_not_le fun hlast => hrow ⟨henabled, hlast⟩
    · by_contra hmeet
      exact hoverlap ⟨henabled, y, hy, hyenabled,
        Nat.le_of_not_lt fun hlt => hmeet (.inr hlt), Nat.le_of_not_lt fun hlt => hmeet (.inl hlt)⟩
    · rw [← hsum] at hlimit
      by_contra hguard
      exact hlimit ⟨fun h0 => hguard (.inl h0), Nat.lt_of_not_le fun hle => hguard (.inr hle)⟩
  generalize hband : (if f.band = 0 then Band.low else Band.high) = band at hrunning
  replace hrunning := hrunning.trans (if_pos hallow)
  let t := (s.settleFetch c).writeZone z entry band
  have ht : t = ((s.settleFetch c).zoneWritten z entry band).placePointer := State.writeZone_eq ..
  refine ⟨{ t with link := { s.link.answered c ⟨.ok, .zone (t.zoneView z)⟩ with
    flags := if becomesOverdue then s.link.flags ||| 128 else s.link.flags } },
    State.request_of_flags h (fun s => s.setZoneMap z f) hrunning ?_,
    State.writeZone_zones .., ?_, rfl, ?_⟩
  · rw [ht]
    exact State.placePointer_frame _ .link (by simp)
  · have hmapOf : ∀ y : ZoneId, ((s.settleFetch c).zoneWritten z entry band).zones[y].map =
        mapOf y := fun y => zones_map_set _ _ _ _
    cases hpointer : s.tuner.pointer with
    | none =>
      have hplaced := State.placePointer_of_none
        (s := (s.settleFetch c).zoneWritten z entry band) hpointer
      simp only [hmapOf] at hplaced
      exact congrArg State.tuner (ht.trans hplaced)
    | some p =>
      have hplaced := State.placePointer_of_some
        (s := (s.settleFetch c).zoneWritten z entry band) hpointer
      simp only [hmapOf] at hplaced
      exact congrArg State.tuner (ht.trans hplaced)
  · exact .trans (by simp [unchangedBut_iff, State.settleFetch])
      (((s.settleFetch c).writeZone_frame z entry band).trans (by simp [t, unchangedBut_iff]))

/-! ## ACK_ATTENTION, SET_MASKS and SET_EDGES (R179 to R181) -/

theorem edgeOf_eq (n : Nat) :
    edgeOf n = ([.none, .rising, .falling, .both] : List EdgeSelection)[n]? := by
  match n with
  | 0 | 1 | 2 | 3 => rfl
  | _ + 4 => rfl

theorem edgeOf_isSome {n : Nat} (h : n ≤ 3) : ∃ e, edgeOf n = some e := by
  match n with
  | 0 | 1 | 2 | 3 => exact ⟨_, rfl⟩

theorem edgeOf_eq_none {n : Nat} (h : 3 < n) : edgeOf n = none := by
  match n with
  | _ + 4 => rfl

theorem edgesOf_eq_none {f : EdgeFields}
    (h : 3 < f.pushFwd ∨ 3 < f.pushHome ∨ 3 < f.take ∨ 3 < f.pressDone ∨ 3 < f.chuteDone) :
    edgesOf f = none := by
  unfold edgesOf
  split
  · rename_i h1 h2 h3 h4 h5
    rcases h with h | h | h | h | h <;> simp_all [edgeOf_eq_none h]
  · rfl

theorem edgesOf_eq_some {f : EdgeFields}
    (h : ¬ (3 < f.pushFwd ∨ 3 < f.pushHome ∨ 3 < f.take ∨ 3 < f.pressDone ∨ 3 < f.chuteDone)) :
    ∃ e, edgesOf f = some e ∧ edgeOf f.pushFwd = some e.pushFwd ∧
      edgeOf f.pushHome = some e.pushHome ∧ edgeOf f.take = some e.take ∧
      edgeOf f.pressDone = some e.pressDone ∧ edgeOf f.chuteDone = some e.chuteDone := by
  obtain ⟨fwd, hfwd⟩ := edgeOf_isSome (n := f.pushFwd) (by omega)
  obtain ⟨home, hhome⟩ := edgeOf_isSome (n := f.pushHome) (by omega)
  obtain ⟨take, htake⟩ := edgeOf_isSome (n := f.take) (by omega)
  obtain ⟨press, hpress⟩ := edgeOf_isSome (n := f.pressDone) (by omega)
  obtain ⟨chute, hchute⟩ := edgeOf_isSome (n := f.chuteDone) (by omega)
  exact ⟨⟨fwd, home, take, press, chute⟩, by simp only [edgesOf, hfwd, hhome, htake, hpress, hchute],
    hfwd, hhome, htake, hpress, hchute⟩

theorem EdgeSelection.counts_iff (e : EdgeSelection) (t : Transition) :
    e.counts t = true ↔ e = .both ∨ e = .rising ∧ t = .rising ∨ e = .falling ∧ t = .falling := by
  cases e <;> cases t <;> simp [EdgeSelection.counts]

theorem ofNat_getElem (w : Nat) {k : Nat} (hk : k < 10) : (BitVec.ofNat 10 w)[k] = w.testBit k := by
  rw [← BitVec.getLsbD_eq_getElem, BitVec.getLsbD_ofNat]
  simp [hk]

/-- A request that changes the masks and the edge selections, and no flag. -/
theorem State.request_of_registers {s t : State} {c : Nat} {r : Response} {masks : BitVec 10}
    {edges : EdgeSelections} (h : s.Taking c) (act : State → Response × State)
    (ha : act (s.settleFetch c) = (r, t))
    (hlink : t.link = { (s.settleFetch c).link with masks := masks, edges := edges }) :
    s.request c act = .next { t with
      link := { s.link.answered c r with masks := masks, edges := edges } } := by
  have key := congrArg State.link (State.settleFetch_respond s c r)
  rw [State.request_taking h, ha]
  simp only [State.respond, State.answered, hlink] at key ⊢
  rw [← key]

theorem clearFlags_getLsbD (flags : BitVec 10) (w k : Nat) (hk : k < 10) :
    (clearFlags flags (BitVec.ofNat 10 w)).getLsbD k = (flags.getLsbD k && !w.testBit k) := by
  simp [clearFlags, hk, ofNat_getElem w hk]

/-- Settles O8. -/
theorem linkRegistersWritten : Obligations.LinkRegistersWritten := by
  unfold Obligations.LinkRegistersWritten
  refine ⟨fun s c w h => ?_, ?_, EdgeSelection.counts_iff⟩
  · have hack : exec (.ackAttention c w) s = s.request c fun s => s.acknowledge w := rfl
    have hmasks : exec (.setMasks c w) s = s.request c fun s => s.replaceMasks w := rfl
    rw [hack, hmasks]
    refine ⟨fun hw => ?_, fun hw => ?_⟩
    · have hnamed : flagsNamed w = true := decide_eq_true hw
      refine ⟨⟨clearFlags s.link.flags (BitVec.ofNat 10 w), clearFlags_getLsbD _ w, ?_⟩,
        BitVec.ofNat 10 w, fun k hk => by simp [hk, ofNat_getElem w hk], ?_⟩
      · exact (State.request_of_flags h (fun s => s.acknowledge w)
          ((if_pos hnamed : (s.settleFetch c).acknowledge w = _).trans rfl) rfl).trans rfl
      · exact (State.request_of_registers h (fun s => s.replaceMasks w)
          ((if_pos hnamed : (s.settleFetch c).replaceMasks w = _).trans rfl) rfl).trans rfl
    · have hnamed : ¬ flagsNamed w = true := by simp [flagsNamed, hw]
      exact ⟨State.request_of_unchanged h (if_neg hnamed),
        State.request_of_unchanged h (if_neg hnamed)⟩
  · intro s c f h names
    have hedges : exec (.setEdges c f) s = s.request c fun s => s.replaceEdges f := rfl
    have hact : (s.settleFetch c).replaceEdges f = if !s.line.mode.idle then _ else _ := rfl
    split <;> rename_i hmode
    · exact hedges.trans (State.request_of_unchanged h (hact.trans
        (if_pos (congrArg (!·) ((LineMode.not_idle_iff _).mpr hmode)))))
    replace hact := hact.trans
      (if_neg (by rw [← LineMode.not_idle_iff] at hmode; simpa using hmode))
    split <;> rename_i hnumbers
    · rw [edgesOf_eq_none hnumbers] at hact
      exact hedges.trans (State.request_of_unchanged h hact)
    obtain ⟨e, hsome, hfwd, hhome, htake, hpress, hchute⟩ := edgesOf_eq_some hnumbers
    rw [hsome] at hact
    rw [edgeOf_eq] at hfwd hhome htake hpress hchute
    refine ⟨e, hfwd, hhome, htake, hpress, hchute, ?_⟩
    exact hedges.trans ((State.request_of_registers h (fun s => s.replaceEdges f) hact rfl).trans rfl)

/-! ## Time and whole quanta (R164, R93) -/

/-- The numbers from `a` below `b`, counted among those below `n`. -/
theorem length_filter_range (a b : Nat) :
    ∀ n : Nat, ((List.range n).filter fun k => decide (a ≤ k ∧ k < b)).length = min b n - a
  | 0 => by simp
  | n + 1 => by
    rw [List.range_succ, List.filter_append, List.length_append, length_filter_range a b n]
    by_cases h : a ≤ n ∧ n < b
    · simp only [List.filter_cons, decide_eq_true h, if_true, List.filter_nil, List.length_singleton]
      omega
    · simp only [List.filter_cons, decide_eq_false h, Bool.false_eq_true, if_false,
        List.filter_nil, List.length_nil]
      omega

/-- The quanta that end after `now` and not after `later` and begin at or after `since`, one by one. -/
theorem quantaGained_eq {origin now later : Nat} (since : Nat) (hnow : origin ≤ now) (hlater : now ≤ later) :
    quantaGained origin now later since =
      ((List.range (later - origin)).filter fun k =>
        decide (now < origin + 10 * (k + 1) ∧ origin + 10 * (k + 1) ≤ later ∧
          since ≤ origin + 10 * k)).length := by
  have hquantum : ∀ k, (now < origin + 10 * (k + 1) ∧ origin + 10 * (k + 1) ≤ later ∧
      since ≤ origin + 10 * k) ↔
      max ((now - origin) / 10) (ceilDiv (since - origin) 10) ≤ k ∧ k < (later - origin) / 10 := by
    intro k
    unfold ceilDiv
    omega
  simp only [hquantum, length_filter_range]
  have hfew : (later - origin) / 10 ≤ later - origin := Nat.div_le_self _ _
  rw [Nat.min_eq_left hfew]
  rfl

theorem ZoneChannel.accrue_of_not_on {z : ZoneChannel} (h : z.state ≠ .on) (origin now later : Nat) :
    z.accrue origin now later = z := by
  unfold ZoneChannel.accrue
  split
  · exact absurd ‹_› h
  · rfl

theorem ZoneChannel.accrue_of_on {z : ZoneChannel} {since : Nat} (h : z.state = .on)
    (hsince : z.onSince = some since) (origin now later : Nat) :
    z.accrue origin now later =
      { z with qOn := min 20 (z.qOn + quantaGained origin now later since) } := by
  simp only [ZoneChannel.accrue, h, hsince]
  rfl

/-- Settles O33. -/
theorem timeCountsWholeQuanta : Obligations.TimeCountsWholeQuanta := by
  unfold Obligations.TimeCountsWholeQuanta
  refine ⟨?_, fun s due hdue hmax => State.reach_count hdue hmax, fun s hpending => ?_⟩
  · intro s n hround hcount u
    refine ⟨rfl, by simp [u, unchangedBut_iff], fun z => ⟨fun hoff => ?_, fun since hon hsince => ?_⟩⟩
    · exact (s.elapse_zone n z).trans (ZoneChannel.accrue_of_not_on hoff _ _ _)
    · have hlater : s.clock.count ≤ satAdd Config.timeMax s.clock.count n := by
        have hmax : Config.timeMax = 281474976710655 := rfl
        unfold satAdd
        omega
      refine (s.elapse_zone n z).trans ((ZoneChannel.accrue_of_on hon hsince _ _ _).trans ?_)
      rw [quantaGained_eq since hround hlater]
      rfl
  · have hstep : step s = s.runOn := by
      simp only [step, hpending]
    rw [hstep]
    refine ⟨fun hdue hhold => ?_, fun i hdue => ?_, fun hhold => ?_⟩
    · simp only [State.runOn, hdue, if_neg hhold]
    · simp only [State.runOn, hdue]
    · simp only [State.runOn, State.dueEvent, hhold, if_true]

end Sys2Proof.Machine
end

section
/-! PROOFS. The exit station: readings, the close of the window, the READY billet, takes and the ends of
a transfer (R133 to R145). -/

namespace Sys2Proof.Machine

/-! ## The live record a station acts on -/

/-- The live record with the tag of `r` is now `r`; every other one stands. -/
def State.withRecord (s : State) (r : BilletRecord) : State :=
  { s with pool := { s.pool with
    records := s.pool.records.map fun x => if x.tag = r.tag then r else x } }

/-- The station as a rejection leaves it: REJECTING, its transfer timer running, REJECT set (R137). -/
def State.sentToChute (s : State) : State :=
  { s with
    exit := { s.exit with
      state := .rejecting, waitRounds := none, windowTimer := none
      transferTimer := some (s.clock.count + s.line.transferTimeout) }
    link := { s.link with flags := s.link.flags ||| 2 } }

theorem State.modifyRecord_live {s : State} {r : BilletRecord} (htags : TagsDistinct s)
    (hr : r ∈ s.pool.records) {f : BilletRecord → BilletRecord} (hf : (f r).tag = r.tag) :
    s.modifyRecord r.tag f = s.withRecord (f r) := by
  simp only [State.modifyRecord, State.withRecord, hf, modify_eq_replace htags hr]

theorem State.withRecord_tagsDistinct {s : State} (htags : TagsDistinct s) (r : BilletRecord) :
    TagsDistinct (s.withRecord r) := by
  refine htags.of_map (fun x => if x.tag = r.tag then r else x) (fun x => ?_) rfl
  split
  · exact (‹x.tag = r.tag›).symm
  · rfl

theorem State.mem_withRecord {s : State} {r r' : BilletRecord} (hr : r ∈ s.pool.records)
    (htag : r'.tag = r.tag) : r' ∈ (s.withRecord r').pool.records :=
  List.mem_map.mpr ⟨r, hr, if_pos htag.symm⟩

theorem State.withRecord_withRecord (s : State) {r r' : BilletRecord} (htag : r.tag = r'.tag) :
    (s.withRecord r).withRecord r' = s.withRecord r' := by
  simp only [State.withRecord, List.map_map]
  refine congrArg (fun records => { s with pool := { s.pool with records := records } }) ?_
  refine List.map_congr_left fun x _ => ?_
  by_cases hx : x.tag = r'.tag
  · simp [hx, htag]
  · simp [hx, htag]

theorem State.enterRejecting_live {s : State} {r : BilletRecord} (htags : TagsDistinct s)
    (hr : r ∈ s.pool.records) (o : BilletOutcome) :
    s.enterRejecting r.tag o = (s.withRecord { r with outcome := some o }).sentToChute := by
  rw [State.enterRejecting, State.modifyRecord_live htags hr rfl]
  rfl

theorem BilletFlags.any_iff (f : BilletFlags) : f.any = true ↔
    f.marked = true ∨ f.overheat = true ∨ f.soakExceeded = true ∨ f.stale = true := by
  simp [BilletFlags.any, or_assoc]

theorem State.serveTake_of_not_ready {s : State} (h : s.exit.state ≠ .ready) : s.serveTake = s := by
  unfold State.serveTake
  split
  · exact absurd ‹_› h
  · rfl

theorem State.serveTake_live {s : State} {r : BilletRecord} (htags : TagsDistinct s)
    (hr : r ∈ s.pool.records) (hstate : s.exit.state = .ready) (hslot : s.exit.slot = some r.tag) :
    s.serveTake =
      if s.exit.pendingTakes = 0 then s
      else
        match judgeReady s.recipes[r.recipe].fields r with
        | some o => (s.withRecord { r with outcome := some o }).sentToChute
        | none => { s with exit := { s.exit with
            state := .toPress, waitRounds := none, pendingTakes := s.exit.pendingTakes - 1
            transferTimer := some (s.clock.count + s.line.transferTimeout) } } := by
  simp only [State.serveTake, hstate, hslot, Option.bind_some, State.lookup_of_mem htags hr,
    State.enterRejecting_live htags hr] <;> rfl

theorem State.serveTake_verdict {s : State} {r : BilletRecord} (htags : TagsDistinct s)
    (hr : r ∈ s.pool.records) (hstate : s.exit.state = .ready) (hslot : s.exit.slot = some r.tag)
    (htakes : s.exit.pendingTakes ≠ 0) :
    (∀ o, judgeReady s.recipes[r.recipe].fields r = some o →
      s.serveTake = (s.withRecord { r with outcome := some o }).sentToChute) ∧
    (judgeReady s.recipes[r.recipe].fields r = none →
      s.serveTake = { s with exit := { s.exit with
        state := .toPress, waitRounds := none, pendingTakes := s.exit.pendingTakes - 1
        transferTimer := some (s.clock.count + s.line.transferTimeout) } }) := by
  have hserved := (State.serveTake_live htags hr hstate hslot).trans (if_neg htakes)
  refine ⟨fun o hjudge => ?_, fun hjudge => ?_⟩
  · rw [hserved, hjudge]
  · rw [hserved, hjudge]

/-! ## The trimmed mean (R135) -/

theorem foldl_min_eq {low : Nat} : ∀ (l : List Nat) (a : Nat), low ∈ a :: l →
    (∀ x ∈ a :: l, low ≤ x) → l.foldl min a = low
  | [], a, hmem, _ => (List.mem_singleton.mp hmem).symm
  | x :: l, a, hmem, hle => by
    have ha := hle a (by simp)
    have hx := hle x (by simp)
    refine foldl_min_eq l (min a x) ?_ fun y hy => ?_
    · simp only [List.mem_cons] at hmem ⊢
      rcases hmem with rfl | rfl | hl
      · exact .inl (Nat.min_eq_left hx).symm
      · exact .inl (Nat.min_eq_right ha).symm
      · exact .inr hl
    · rcases List.mem_cons.mp hy with rfl | hl
      · exact Nat.le_min.mpr ⟨ha, hx⟩
      · exact hle y (by simp [hl])

theorem foldl_max_eq {high : Nat} : ∀ (l : List Nat) (a : Nat), high ∈ a :: l →
    (∀ x ∈ a :: l, x ≤ high) → l.foldl max a = high
  | [], a, hmem, _ => (List.mem_singleton.mp hmem).symm
  | x :: l, a, hmem, hle => by
    have ha := hle a (by simp)
    have hx := hle x (by simp)
    refine foldl_max_eq l (max a x) ?_ fun y hy => ?_
    · simp only [List.mem_cons] at hmem ⊢
      rcases hmem with rfl | rfl | hl
      · exact .inl (Nat.max_eq_left hx).symm
      · exact .inl (Nat.max_eq_right ha).symm
      · exact .inr hl
    · rcases List.mem_cons.mp hy with rfl | hl
      · exact Nat.max_le.mpr ⟨ha, hx⟩
      · exact hle y (by simp [hl])

theorem sum_erase_of_mem {x : Nat} {l : List Nat} (h : x ∈ l) : (l.erase x).sum = l.sum - x := by
  have hsum := (List.perm_cons_erase h).sum_eq
  rw [List.sum_cons] at hsum
  omega

/-- One lowest and one highest reading taken off the sum of at least two is taken off the list. -/
theorem trimmedMean_eq {readings : List Nat} {low high : Nat} (hlength : 2 ≤ readings.length)
    (hlow : low ∈ readings) (hhigh : high ∈ readings) (hrange : ∀ x ∈ readings, low ≤ x ∧ x ≤ high) :
    trimmedMean readings = ((readings.erase low).erase high).sum / (readings.length - 2) := by
  have hmin : readings.foldl min (readings.headD 0) = low := by
    match readings with
    | x :: l =>
      exact foldl_min_eq (x :: l) x (by simp [hlow]) fun y hy =>
        (hrange y (by simpa using hy)).1
  have hmax : readings.foldl max 0 = high :=
    foldl_max_eq readings 0 (by simp [hhigh]) fun y hy => by
      rcases List.mem_cons.mp hy with rfl | hy
      · exact Nat.zero_le _
      · exact (hrange y hy).2
  have hrest : high ∈ readings.erase low := by
    by_cases hne : high = low
    · subst hne
      have hall : readings = List.replicate readings.length high :=
        List.eq_replicate_of_mem fun x hx =>
          Nat.le_antisymm (hrange x hx).2 (hrange x hx).1
      rw [hall, List.erase_replicate_self]
      exact List.mem_replicate.mpr ⟨by omega, rfl⟩
    · exact (List.mem_erase_of_ne hne).mpr hhigh
  rw [trimmedMean, hmin, hmax, sum_erase_of_mem hrest, sum_erase_of_mem hlow]

/-! ## The close of the window (R135 to R137, R141) -/

/-- The resync of `r`, and the adaptation update it sends in RUN for an empty flag set (R136). -/
def State.resynced (s : State) (r : BilletRecord) (measured : Nat) : State :=
  { s.withRecord (resync measured r) with
    mail := { s.mail with updates := s.mail.updates ++
      if s.line.mode = .run ∧ r.flags.any = false then [(r.recipe, resyncDiff measured r)]
      else [] } }

theorem State.applyResync_live {s : State} {r : BilletRecord} (htags : TagsDistinct s)
    (hr : r ∈ s.pool.records) (measured : Nat) :
    s.applyResync r measured = s.resynced r measured := by
  simp only [State.applyResync, State.resynced]
  rw [State.modifyRecord_live htags hr (f := resync measured) rfl]
  by_cases h : s.line.mode = .run ∧ r.flags.any = false
  · rw [if_pos h, if_pos (by simp [State.withRecord, h.1, h.2])]
    rfl
  · have hquiet : ¬ ((decide (s.line.mode = .run) && !r.flags.any) = true) := by
      simpa using h
    rw [if_neg h, List.append_nil]
    exact if_neg hquiet

theorem resync_eq {measured : Nat} (h : measured ≤ 16000) (r : BilletRecord) :
    resync measured r = { r with
      measured := some measured, ts := measured
      tc := (max 0 (min 16000 ((r.tc : Int) + (measured - r.ts)))).toNat } := by
  have hts : (clampInt 0 Config.tempMax measured).toNat = measured := by
    simp only [clampInt, Config.tempMax]
    omega
  rw [resync, hts]
  rfl

/-- The close of the window of a station that holds a live record. -/
theorem State.closeWindow_live {s : State} {r : BilletRecord} (htags : TagsDistinct s)
    (hr : r ∈ s.pool.records) (hslot : s.exit.slot = some r.tag) :
    s.closeWindow =
      match measuredValue s.exit.readings with
      | none => (s.withRecord { r with outcome := some .noReading }).sentToChute
      | some measured =>
          match decideExit s.recipes[r.recipe].fields measured r with
          | some o => ((s.resynced r measured).withRecord
              { resync measured r with outcome := some o }).sentToChute
          | none => (s.resynced r measured).enterReady := by
  have hslotted : s.exit.slot.bind s.lookup = some r := by
    rw [hslot, Option.bind_some, State.lookup_of_mem htags hr]
  simp only [State.closeWindow, hslotted]
  cases measuredValue s.exit.readings with
  | none => exact State.enterRejecting_live htags hr _
  | some measured =>
    simp only [State.applyResync_live htags hr]
    have hrejects := fun o => State.enterRejecting_live (s := s.resynced r measured)
      (r := resync measured r) (State.withRecord_tagsDistinct htags _)
      (State.mem_withRecord hr rfl) o
    have hfields : (s.resynced r measured).recipes[r.recipe].fields =
        s.recipes[r.recipe].fields := rfl
    simp only [hfields]
    cases decideExit s.recipes[r.recipe].fields measured r with
    | none => rfl
    | some o => exact hrejects o

/-- A billet that passed the exit decision is not rejected by the judgment of a take. -/
theorem judgeReady_resync {f : RecipeFields} {measured : Nat} {r : BilletRecord}
    (hmax : measured ≤ 16000) (h : decideExit f measured r = none) :
    judgeReady f (resync measured r) = none := by
  have hts : (resync measured r).ts = measured := by rw [resync_eq hmax]
  unfold decideExit at h
  split at h
  · cases h
  rename_i hflags
  split at h
  · cases h
  rename_i hlow
  exact (if_neg hflags).trans (if_neg (by rw [hts]; exact hlow))

theorem State.enterReady_resynced {s : State} {r : BilletRecord} {measured : Nat}
    (htags : TagsDistinct s) (hr : r ∈ s.pool.records) (hslot : s.exit.slot = some r.tag)
    (hmax : measured ≤ 16000) (h : decideExit s.recipes[r.recipe].fields measured r = none) :
    (s.resynced r measured).enterReady = { s.resynced r measured with
      exit :=
        if s.exit.pendingTakes = 0 then
          { s.exit with state := .ready, waitRounds := some 0, windowTimer := none }
        else
          { s.exit with
            state := .toPress, waitRounds := none, windowTimer := none
            pendingTakes := s.exit.pendingTakes - 1
            transferTimer := some (s.clock.count + s.line.transferTimeout) } } := by
  have hserved := State.serveTake_live (s := { s.resynced r measured with
      exit := { s.exit with state := .ready, waitRounds := some 0, windowTimer := none } })
    (r := resync measured r) (State.withRecord_tagsDistinct htags _)
    (State.mem_withRecord hr rfl) rfl hslot
  have hjudged : judgeReady s.recipes[(resync measured r).recipe].fields (resync measured r) =
      none := judgeReady_resync hmax h
  refine hserved.trans ?_
  by_cases htakes : s.exit.pendingTakes = 0
  · simp only [htakes, if_true]
  · simp only [htakes, if_false]
    have hsame : (s.resynced r measured).recipes = s.recipes := rfl
    simp only [hsame, hjudged]
    rfl

theorem State.withRecord_resynced (s : State) (r : BilletRecord) (measured : Nat)
    (o : BilletOutcome) :
    (s.resynced r measured).withRecord { resync measured r with outcome := some o } =
      { s.withRecord { resync measured r with outcome := some o } with
        mail := (s.resynced r measured).mail } :=
  congrArg (fun u : State => { u with mail := (s.resynced r measured).mail })
    (s.withRecord_withRecord (r := resync measured r)
      (r' := { resync measured r with outcome := some o }) rfl)

/-- Settles O43. -/
theorem windowCloseDecides : Obligations.WindowCloseDecides := by
  unfold Obligations.WindowCloseDecides
  intro s due r hopen htags hstate htimer hslot hr u f flagged low high withRecord rejecting chute
  have hevent : exec .measurementWindowExpiry s = .next u.closeWindow := by
    refine (State.event_open hopen State.expireWindow).trans (congrArg _ ?_)
    simp only [State.expireWindow, htimer, hstate, if_true]
    rfl
  have hclose := State.closeWindow_live (s := u) htags hr hslot
  have hreadings : u.exit.readings = s.exit.readings := rfl
  have hfields : u.recipes[r.recipe].fields = f := rfl
  rw [hreadings, hfields] at hclose
  refine ⟨fun hnone => ?_, ?_⟩
  · rw [hevent, hclose, hnone]
    rfl
  · intro measured hmeasured hmax diff r' mail rejects
    rw [hevent, hclose, hmeasured]
    have hresync : resync measured r = r' := resync_eq hmax r
    have hrejects : ∀ o, ((u.resynced r measured).withRecord
        { resync measured r with outcome := some o }).sentToChute = rejects o := by
      intro o
      rw [State.withRecord_resynced, hresync]
      rfl
    simp only [hrejects]
    by_cases hflagged : flagged = true
    · rw [if_pos hflagged]
      have hdecide : decideExit f measured r = some .rejectedFlagged := if_pos hflagged
      rw [hdecide]
    rw [if_neg hflagged]
    by_cases hcold : (measured : Int) < low
    · rw [if_pos hcold]
      have hdecide : decideExit f measured r = some .rejectedCold :=
        (if_neg hflagged).trans (if_pos hcold)
      rw [hdecide]
    rw [if_neg hcold]
    by_cases hhot : high < (measured : Int)
    · rw [if_pos hhot]
      have hdecide : decideExit f measured r = some .rejectedHot :=
        (if_neg hflagged).trans ((if_neg hcold).trans (if_pos hhot))
      rw [hdecide]
    rw [if_neg hhot]
    have hdecide : decideExit f measured r = none :=
      (if_neg hflagged).trans ((if_neg hcold).trans (if_neg hhot))
    have hready := State.enterReady_resynced (s := u) htags hr hslot hmax hdecide
    simp only [hdecide]
    rw [hready]
    simp only [State.resynced, hresync]
    rfl

/-! ## Readings (R134) -/

/-- No time passes to a count that is reached: the meters stand. -/
theorem State.reach_now {s : State} (hcount : s.clock.count ≤ 281474976710655)
    (hmeters : ∀ z : ZoneId, s.zones[z].qOn ≤ 20) : s.reach s.clock.count = s := by
  have hlater : satAdd Config.timeMax s.clock.count (s.clock.count - s.clock.count) =
      s.clock.count := by
    have hmax : Config.timeMax = 281474976710655 := rfl
    unfold satAdd
    omega
  have hzones : (s.reach s.clock.count).zones = s.zones := by
    refine Vector.ext fun k hk => ?_
    have hzone := s.elapse_zone (s.clock.count - s.clock.count) ⟨k, hk⟩
    rw [hlater] at hzone
    refine hzone.trans ?_
    unfold ZoneChannel.accrue
    split
    · have hgained : ∀ since, quantaGained s.feeder.roundStart s.clock.count s.clock.count since =
          0 := fun since => by
        unfold quantaGained
        omega
      have hmeter : min Config.quantaPerRound (s.zones[(⟨k, hk⟩ : ZoneId)].qOn + 0) =
          s.zones[(⟨k, hk⟩ : ZoneId)].qOn := Nat.min_eq_right (hmeters ⟨k, hk⟩)
      rw [hgained, hmeter]
      rfl
    · rfl
  have hclock : (s.reach s.clock.count).clock = s.clock :=
    congrArg (fun n => { s.clock with count := n }) hlater
  have hframe := s.reach_frame s.clock.count
  exact congrArg₂ (fun clock zones => { s with clock := clock, zones := zones }) hclock hzones

theorem State.closeWindow_timer {s : State} {r : BilletRecord} (htags : TagsDistinct s)
    (hr : r ∈ s.pool.records) (hslot : s.exit.slot = some r.tag) (timer : Option Nat) :
    State.closeWindow { s with exit := { s.exit with windowTimer := timer } } = s.closeWindow := by
  rw [State.closeWindow_live htags hr hslot,
    State.closeWindow_live (s := { s with exit := { s.exit with windowTimer := timer } })
      htags hr hslot]
  cases measuredValue s.exit.readings with
  | none => rfl
  | some measured =>
    simp only
    cases decideExit s.recipes[r.recipe].fields measured r <;> rfl

/-- Settles O42. -/
theorem readingsListedAndAveraged : Obligations.ReadingsListedAndAveraged := by
  unfold Obligations.ReadingsListedAndAveraged
  refine ⟨fun s value valid hopen => ?_, fun readings => ⟨?_, fun hone hthree => ?_,
    fun hfour low high hlow hhigh hrange => ?_⟩⟩
  · have hevent : exec (.pyrometerReading value valid) s = .next (s.takeReading value valid) :=
      State.event_open hopen fun s => s.takeReading value valid
    rw [hevent]
    refine ⟨fun hstate => ?_, fun hstate hinvalid => ?_, fun hstate hvalid hvalue hfew => ?_,
      fun hstate hvalid hvalue hseven htags hcount hmeters r hr hslot => ?_⟩
    · rw [State.takeReading, if_neg hstate]
      rfl
    · rw [State.takeReading, if_pos hstate, if_neg]
      · rfl
      · have hmax : Config.tempMax = 16000 := rfl
        simp only [readingValid, Bool.and_eq_true, decide_eq_true_eq, hmax]
        rintro ⟨hvalid, hvalue⟩
        rcases hinvalid with hinvalid | hinvalid
        · simp [hvalid] at hinvalid
        · omega
    all_goals
      have hlisted : readingValid value valid = true := by
        simp [readingValid, hvalid, Config.tempMax, hvalue]
      have htake : s.takeReading value valid =
          if 8 ≤ (s.exit.readings ++ [value]).length then
            State.closeWindow { s with exit := { s.exit with
              readings := s.exit.readings ++ [value] } }
          else { s with exit := { s.exit with readings := s.exit.readings ++ [value] } } :=
        (if_pos hstate).trans (if_pos hlisted)
      rw [htake, List.length_append, List.length_singleton]
    · rw [if_neg (by omega)]
    · rw [if_pos (by omega)]
      let v : State := { s with exit := { s.exit with readings := s.exit.readings ++ [value] } }
      let w : State := { v with exit := { v.exit with windowTimer := some s.clock.count } }
      have hreached : w.reach s.clock.count = w := State.reach_now (s := w) hcount hmeters
      have hexpiry : exec .measurementWindowExpiry w = .next w.closeWindow := by
        refine (State.event_open (s := w) hopen State.expireWindow).trans (congrArg _ ?_)
        have htimer : w.exit.windowTimer = some s.clock.count := rfl
        have hmeasuring : w.exit.state = .measuring := hstate
        simp only [State.expireWindow, htimer, hmeasuring, if_true, hreached]
      exact (congrArg _ (State.closeWindow_timer (s := v) htags hr hslot _).symm).trans hexpiry.symm
  · rintro rfl
    rfl
  · rw [measuredValue, if_neg (by omega), if_pos hthree]
  · rw [measuredValue, if_neg (by omega), if_neg (by omega),
      trimmedMean_eq (by omega) hlow hhigh hrange]

/-! ## The READY billet (R138, R139) -/

/-- A notice names the record in the slot, or it names none. -/
theorem State.slotRecord_none {s : State} {ref : RecordRef}
    (h : s.exit.slot ≠ some ref.tag ∨
      ∀ r ∈ s.pool.records, r.tag = ref.tag → r.loadSeq ≠ ref.loadSeq) :
    s.slotRecord ref = none := by
  unfold State.slotRecord
  split <;> rename_i hslot
  · have hother := h.resolve_left (not_not.mpr hslot)
    unfold State.lookupRef
    cases hlookup : s.lookup ref.tag with
    | none => rfl
    | some r =>
      obtain ⟨hr, htag, -⟩ := State.lookup_some hlookup
      simp [hother r hr htag]
  · rfl

theorem State.actOnStep_idle {s : State} {ref : RecordRef}
    (h : s.exit.state ≠ .ready ∨ s.slotRecord ref = none) : s.actOnStep ref = s := by
  unfold State.actOnStep
  split
  · simp_all
  · rfl

theorem State.actOnMark_idle {s : State} {ref : RecordRef}
    (h : s.exit.state ≠ .ready ∨ s.slotRecord ref = none) : s.actOnMark ref = s := by
  unfold State.actOnMark
  split
  · simp_all
  · rfl

theorem State.slotRecord_live {s : State} {r : BilletRecord} {ref : RecordRef}
    (htags : TagsDistinct s) (hr : r ∈ s.pool.records) (htag : r.tag = ref.tag)
    (hseq : r.loadSeq = ref.loadSeq) (hslot : s.exit.slot = some ref.tag) :
    s.slotRecord ref = some r := by
  have href : ref = { tag := r.tag, loadSeq := r.loadSeq } := by rw [htag, hseq]
  rw [State.slotRecord, if_pos hslot, href]
  exact State.lookupRef_of_mem htags hr

/-- A step notice for the READY billet, by its judgment. -/
theorem State.actOnStep_live {s : State} {r : BilletRecord} {ref : RecordRef}
    (htags : TagsDistinct s) (hr : r ∈ s.pool.records) (hstate : s.exit.state = .ready)
    (hrecord : s.slotRecord ref = some r) {waited : Nat}
    (hwaited : satAdd Config.counterMax (s.exit.waitRounds.getD 0) 1 = waited) :
    (∀ o, judgeWaiting s.recipes[r.recipe].fields waited r = some o →
      s.actOnStep ref = (s.withRecord { r with outcome := some o }).sentToChute) ∧
    (judgeWaiting s.recipes[r.recipe].fields waited r = none →
      s.actOnStep ref = { s with exit := { s.exit with waitRounds := some waited } }) := by
  subst hwaited
  generalize hwaiting : ({ s with exit := { s.exit with
    waitRounds := some (satAdd Config.counterMax (s.exit.waitRounds.getD 0) 1) } } : State) = t
  have hjudged : s.actOnStep ref =
      match judgeWaiting s.recipes[r.recipe].fields
        (satAdd Config.counterMax (s.exit.waitRounds.getD 0) 1) r with
      | some o => t.enterRejecting r.tag o
      | none => t := by
    subst hwaiting
    unfold State.actOnStep
    split
    · rename_i r' _ hr'
      obtain rfl : r = r' := Option.some.inj (hrecord.symm.trans hr')
      rfl
    · rename_i hnot
      exact absurd hrecord (hnot r hstate)
  refine ⟨fun o hjudge => ?_, fun hjudge => ?_⟩
  · rw [hjudged, hjudge]
    subst hwaiting
    exact State.enterRejecting_live htags hr o
  · rw [hjudged, hjudge]

theorem State.actOnMark_live {s : State} {r : BilletRecord} {ref : RecordRef}
    (htags : TagsDistinct s) (hr : r ∈ s.pool.records) (hstate : s.exit.state = .ready)
    (hrecord : s.slotRecord ref = some r) :
    s.actOnMark ref = (s.withRecord { r with outcome := some .rejectedFlagged }).sentToChute := by
  simp only [State.actOnMark, hstate, hrecord]
  exact State.enterRejecting_live htags hr _

theorem judgeWaiting_eq (f : RecipeFields) (waited : Nat) (r : BilletRecord) :
    judgeWaiting f waited r =
      if r.flags.any = true then some .rejectedFlagged
      else if (r.ts : Int) < windowLow f r then some .rejectedCooled
      else if f.maxWait ≠ 0 ∧ f.maxWait ≤ waited then some .rejectedCooled
      else none := by
  unfold judgeWaiting judgeReady waitedOut
  by_cases hflags : r.flags.any = true
  · simp [hflags]
  by_cases hcooled : (r.ts : Int) < windowLow f r
  · simp [hflags, hcooled]
  · simp [hflags, hcooled]

/-- Settles O44. -/
theorem noticesJudgeTheReadyBillet : Obligations.NoticesJudgeTheReadyBillet := by
  unfold Obligations.NoticesJudgeTheReadyBillet
  intro s ref rest hopen htags steps marks
  have hstep : s.mail.steps = ref :: rest → exec .stepNotice s = .next (steps.actOnStep ref) := by
    intro hmail
    refine (State.event_open hopen State.takeStep).trans (congrArg _ ?_)
    simp only [State.takeStep, hmail]
    rfl
  have hmark : s.mail.marks = ref :: rest → exec .markNotice s = .next (marks.actOnMark ref) := by
    intro hmail
    refine (State.event_open hopen State.takeMark).trans (congrArg _ ?_)
    simp only [State.takeMark, hmail]
    rfl
  refine ⟨fun hnone => ⟨fun hmail => ?_, fun hmail => ?_⟩, ?_⟩
  · exact (hstep hmail).trans (congrArg _
      (State.actOnStep_idle (s := steps) (hnone.imp_right (State.slotRecord_none (s := steps)))))
  · exact (hmark hmail).trans (congrArg _
      (State.actOnMark_idle (s := marks) (hnone.imp_right (State.slotRecord_none (s := marks)))))
  · intro r hr htag hseq hstate hslot f waited reject
    refine ⟨fun hmail => ?_, fun hmail => ?_⟩
    · obtain ⟨hrejects, hwaits⟩ := State.actOnStep_live (s := steps) (waited := waited) htags hr
        hstate (State.slotRecord_live (s := steps) htags hr htag hseq hslot) rfl
      have hjudge := judgeWaiting_eq f waited r
      rw [hstep hmail]
      simp only [← BilletFlags.any_iff]
      by_cases hflags : r.flags.any = true
      · rw [if_pos hflags] at hjudge ⊢
        exact congrArg _ (hrejects _ hjudge)
      rw [if_neg hflags] at hjudge ⊢
      by_cases hcooled : (r.ts : Int) < windowLow f r
      · rw [if_pos hcooled] at hjudge
        exact congrArg _ ((hrejects _ hjudge).trans (if_pos hcooled).symm)
      rw [if_neg hcooled] at hjudge
      refine congrArg _ (Eq.trans ?_ (if_neg hcooled).symm)
      by_cases hwaited : f.maxWait ≠ 0 ∧ f.maxWait ≤ waited
      · rw [if_pos hwaited] at hjudge ⊢
        exact hrejects _ hjudge
      · rw [if_neg hwaited] at hjudge ⊢
        exact hwaits hjudge
    · exact (hmark hmail).trans (congrArg _ (State.actOnMark_live (s := marks) htags hr hstate
        (State.slotRecord_live (s := marks) htags hr htag hseq hslot)))

/-! ## Takes (R140, R141) -/

/-- The station with a TAKE edge kept, up to two, or counted (R140). -/
def ExitStation.takeCounted (x : ExitStation) : ExitStation :=
  { x with
    pendingTakes := min 2 (x.pendingTakes + 1)
    takeOverflows :=
      if x.pendingTakes < 2 then x.takeOverflows else min 65535 (x.takeOverflows + 1) }

theorem State.takeRequest_eq {s : State} (h : s.exit.pendingTakes ≤ 2) :
    s.takeRequest = State.serveTake { s with exit := s.exit.takeCounted } := by
  unfold State.takeRequest ExitStation.takeCounted
  by_cases hfew : s.exit.pendingTakes < 2
  · rw [if_pos hfew, if_pos hfew, Nat.min_eq_right (by omega)]
  · have hfull : min 2 (s.exit.pendingTakes + 1) = s.exit.pendingTakes := by omega
    rw [if_neg hfew, if_neg hfew, hfull]
    rfl

/-- Settles O45. -/
theorem takeHandsTheBilletOver : Obligations.TakeHandsTheBilletOver := by
  unfold Obligations.TakeHandsTheBilletOver
  intro s e hopen htags pins takes counted
  let v : State := { s with pins := pins }
  have hevent : exec (.takeEdge e) s =
      .next (if s.link.edges.take.counts e then v.takeRequest else v) := by
    have hpins : v = { s with pins := { s.pins with take := transitionLevel e } } := by
      rw [transitionLevel_eq]
    rw [hpins]
    exact State.event_open (s := { s with pins := { s.pins with take := transitionLevel e } }) hopen
      fun s => if s.link.edges.take.counts e then s.takeRequest else s
  refine ⟨fun hquiet => ?_, fun hcounts htakes hstate => ?_, ?_⟩
  · rw [hevent, if_neg (by simp [hquiet])]
  · rw [hevent, if_pos hcounts, State.takeRequest_eq (s := v) htakes]
    exact congrArg _ (State.serveTake_of_not_ready (s := { v with exit := counted }) hstate)
  · intro r hr hcounts htakes hstate hslot f flagged cooled verdict
    have hpending : takes ≠ 0 := by omega
    obtain ⟨hrejects, hhands⟩ := State.serveTake_verdict (s := { v with exit := counted }) htags hr
      hstate hslot hpending
    rw [hevent, if_pos hcounts, State.takeRequest_eq (s := v) htakes]
    refine congrArg _ ?_
    have hflagged : flagged ↔ r.flags.any = true := (BilletFlags.any_iff _).symm
    have hjudge : judgeReady f r =
        if flagged ∨ cooled then some verdict else none := by
      unfold judgeReady
      by_cases hf : flagged
      · rw [if_pos (hflagged.mp hf), if_pos (.inl hf)]
        exact congrArg some (if_pos hf).symm
      · refine (if_neg (mt hflagged.mpr hf)).trans ?_
        by_cases hc : cooled
        · refine (if_pos hc).trans (Eq.trans ?_ (if_pos (Or.inr hc)).symm)
          exact congrArg some (if_neg hf).symm
        · exact (if_neg hc).trans (if_neg (not_or.mpr ⟨hf, hc⟩)).symm
    by_cases hrejected : flagged ∨ cooled
    · rw [if_pos hrejected] at hjudge ⊢
      exact (hrejects verdict hjudge).trans rfl
    · rw [if_neg hrejected] at hjudge ⊢
      exact (hhands hjudge).trans rfl

/-! ## The ends of a transfer (R142 to R145) -/

/-- The end of a transfer of a live record: retired, the exit empty, and drain completion. -/
theorem State.endTransfer_live {s : State} {r : BilletRecord} (o : BilletOutcome)
    (htags : TagsDistinct s) (hr : r ∈ s.pool.records) (hslot : s.exit.slot = some r.tag) :
    s.endTransfer o = { s with
      pool := { s.pool with
        records := s.pool.records.filter fun x => x.tag != r.tag
        lastRetired := some { r with outcome := some o }
        outcomes := s.pool.outcomes.set o.counter (min 65535 (s.pool.outcomes[o.counter] + 1)) }
      recipes := s.recipes.set r.recipe
        { s.recipes[r.recipe] with users := s.recipes[r.recipe].users - 1 }
      exit := { s.exit with
        slot := none, state := .empty, waitRounds := none, windowTimer := none
        transferTimer := none }
      link := { s.link with flags := s.link.flags ||| 1 }
      line :=
        if s.line.mode = .drain ∧ ∀ p : Fin 40, s.row.positions[p] = none then
          { s.line with mode := .stopped, autoHold := none } else s.line } := by
  have hvacate := State.vacate_of_slot o hslot (State.lookup_of_mem htags hr)
  rw [State.endTransfer, hvacate]
  by_cases hdrained : s.line.mode = .drain ∧ ∀ p : Fin 40, s.row.positions[p] = none
  · rw [if_pos hdrained]
    rw [State.drainTest_of_cleared]
    · rfl
    · exact hdrained.1
    · exact ⟨hdrained.2, rfl⟩
  · rw [if_neg hdrained]
    by_cases hmode : s.line.mode = .drain
    · exact State.drainTest_of_not_cleared fun hcleared => hdrained ⟨hmode, hcleared.1⟩
    · exact (if_neg (by simp [hmode]))

theorem StationState.transferring_iff (st : StationState) :
    st.transferring = true ↔ st = .toPress ∨ st = .rejecting := by
  cases st <;> simp [StationState.transferring]

/-- Settles O46. -/
theorem transfersEndInRetirement : Obligations.TransfersEndInRetirement := by
  unfold Obligations.TransfersEndInRetirement
  intro s e hopen htags pressed chuted ended
  have hpress : exec (.pressDoneEdge e) s =
      .next (if s.link.edges.pressDone.counts e then pressed.pressDone else pressed) := by
    have hpins : pressed = { s with pins := { s.pins with pressDone := transitionLevel e } } := by
      rw [transitionLevel_eq]
    rw [hpins]
    exact State.event_open
      (s := { s with pins := { s.pins with pressDone := transitionLevel e } }) hopen
      fun s => if s.link.edges.pressDone.counts e then s.pressDone else s
  have hchute : exec (.chuteDoneEdge e) s =
      .next (if s.link.edges.chuteDone.counts e then chuted.chuteDone else chuted) := by
    have hpins : chuted = { s with pins := { s.pins with chuteDone := transitionLevel e } } := by
      rw [transitionLevel_eq]
    rw [hpins]
    exact State.event_open
      (s := { s with pins := { s.pins with chuteDone := transitionLevel e } }) hopen
      fun s => if s.link.edges.chuteDone.counts e then s.chuteDone else s
  refine ⟨fun hquiet => ?_, fun hquiet => ?_, fun hcounts hstate => ?_, fun hcounts hstate => ?_,
    fun r hr hslot => ⟨fun hcounts hstate => ?_, fun decided hcounts hstate hdecided => ?_,
      fun due hdue hstate => ?_⟩⟩
  · rw [hpress, if_neg (by simp [hquiet])]
  · rw [hchute, if_neg (by simp [hquiet])]
  · rw [hpress, if_pos hcounts]
    exact congrArg _ (if_neg hstate)
  · rw [hchute, if_pos hcounts]
    exact congrArg _ (if_neg hstate)
  · rw [hpress, if_pos hcounts]
    exact congrArg _ ((if_pos hstate).trans
      (State.endTransfer_live (s := pressed) .forged htags hr hslot))
  · have houtcome : chuted.decidedOutcome = decided := by
      have hlive : chuted.exit.slot.bind chuted.lookup = some r :=
        (congrArg (Option.bind · chuted.lookup) hslot).trans
          (State.lookup_of_mem (s := chuted) htags hr)
      rw [State.decidedOutcome, hlive, Option.bind_some, hdecided, Option.getD_some]
    rw [hchute, if_pos hcounts]
    refine congrArg _ ((if_pos hstate).trans ?_)
    rw [houtcome]
    exact State.endTransfer_live (s := chuted) decided htags hr hslot
  · have hexpiry : exec .transferTimerExpiry s = .next ((s.reach due).endTransfer .transferLost) := by
      refine (State.event_open hopen State.expireTransfer).trans (congrArg _ ?_)
      simp only [State.expireTransfer, hdue]
      exact if_pos ((StationState.transferring_iff _).mpr hstate)
    rw [hexpiry]
    exact congrArg _ (State.endTransfer_live (s := s.reach due) .transferLost htags hr hslot)

end Sys2Proof.Machine
end

section
/-! PROOFS. The stroke end, whole: with a free exit and with a push-off (R64 to R67, R73, R75, R146,
R154). -/

namespace Sys2Proof.Machine

/-! ## What a shift leaves in each block (R66, R67) -/

section
variable {s : State}

theorem State.advanceRow_eq (s : State) : s.advanceRow = { s with
    row := { s.row with positions := s.advanceRow.row.positions }
    pool := { s.pool with
      records := s.advanceRow.pool.records, queue := s.advanceRow.pool.queue } } := rfl

theorem State.shift_of_none (hlast : s.row.tagAt (s.row.length - 1) = none) :
    s.shift = s.advanceRow := by
  rw [State.shift, RowTracker.ejected, hlast, Option.map_none, Option.getD_none]

theorem State.shift_of_some {tag : Nat} (hlast : s.row.tagAt (s.row.length - 1) = some tag) :
    s.shift = (s.handOff tag).advanceRow := by
  rw [State.shift, RowTracker.ejected, hlast, Option.map_some, Option.getD_some]

/-- A shift whose last record, if any, arrives at an EMPTY exit. -/
theorem State.shift_freely
    (h : s.row.tagAt (s.row.length - 1) = none ∨ s.exit.state = .empty) :
    Shifted s s.shift ∧
      s.shift.row = { s.row with positions := s.shift.row.positions } ∧
      s.shift.pool = { s.pool with
        records := s.shift.pool.records, queue := s.shift.pool.queue } ∧
      (s.row.tagAt (s.row.length - 1) = none → s.shift.exit = s.exit) ∧
      (∀ tag, s.row.tagAt (s.row.length - 1) = some tag → s.shift.exit = { s.exit with
        slot := some tag, state := .measuring, readings := []
        windowTimer := some (s.clock.count + 1500) }) ∧
      UnchangedBut [.row, .pool, .exit] s s.shift := by
  cases hlast : s.row.tagAt (s.row.length - 1) with
  | none =>
    rw [State.shift_of_none hlast]
    have hshifted := State.advanceRow_shifted hlast
    rw [State.advanceRow_eq] at hshifted ⊢
    exact ⟨hshifted, rfl, rfl, fun _ => rfl, nofun, by simp [unchangedBut_iff]⟩
  | some tag =>
    have hempty := h.resolve_left (by rw [hlast]; nofun)
    have hoff : s.handOff tag = s.arrive tag := if_pos hempty
    rw [State.shift_of_some hlast, hoff]
    have hshifted : Shifted s (s.arrive tag).advanceRow :=
      State.advanceRow_arrived hlast rfl rfl rfl rfl
    rw [State.advanceRow_eq] at hshifted ⊢
    refine ⟨hshifted, rfl, rfl, nofun, fun tag' htag => ?_,
      by simp [unchangedBut_iff, State.arrive, State.modifyRecord]⟩
    cases htag
    rfl

/-- A shift whose last record pushes the held one off: the exit is vacated, and the record arrives. -/
theorem State.shift_pushing {tag : Nat} (hlast : s.row.tagAt (s.row.length - 1) = some tag)
    (hheld : s.exit.state ≠ .empty) :
    Shifted (s.vacate .pushedOff) s.shift ∧
      s.shift.row = { s.row with positions := s.shift.row.positions } ∧
      s.shift.pool = { (s.vacate .pushedOff).pool with
        records := s.shift.pool.records, queue := s.shift.pool.queue } ∧
      s.shift.exit = { (s.vacate .pushedOff).exit with
        slot := some tag, state := .measuring, readings := []
        windowTimer := some (s.clock.count + 1500) } ∧
      s.shift.link = { (s.vacate .pushedOff).link with
        flags := (s.vacate .pushedOff).link.flags ||| 32 } ∧
      UnchangedBut [.row, .pool, .exit, .link] (s.vacate .pushedOff) s.shift := by
  have hoff : s.handOff tag = ((s.vacate .pushedOff).arrive tag).raise .strokeFault := if_neg hheld
  have hrow : (s.vacate .pushedOff).row = s.row := s.vacate_frame _ .row (by simp)
  have hclock : (s.vacate .pushedOff).clock = s.clock := s.vacate_frame _ .clock (by simp)
  rw [State.shift_of_some hlast, hoff, ← hclock]
  generalize s.vacate .pushedOff = u at hrow
  rw [← hrow] at hlast ⊢
  have hshifted : Shifted u ((u.arrive tag).raise .strokeFault).advanceRow :=
    State.advanceRow_arrived hlast rfl rfl rfl rfl
  rw [State.advanceRow_eq] at hshifted ⊢
  exact ⟨hshifted, rfl, rfl, rfl, rfl,
    by simp [unchangedBut_iff, State.arrive, State.modifyRecord]⟩

end

/-! ## What follows the shift (R73, R75, R154) -/

theorem State.drainTest_line (s : State) :
    s.drainTest = { s with
      line :=
        if s.line.mode = .drain ∧ (∀ p : Fin 40, s.row.positions[p] = none) ∧
            s.exit.state = .empty then { s.line with mode := .stopped, autoHold := none }
        else s.line } := by
  by_cases hmode : s.line.mode = .drain
  · by_cases hcleared : s.Cleared
    · rw [State.drainTest_of_cleared hmode hcleared, if_pos ⟨hmode, hcleared⟩]
      rfl
    · rw [State.drainTest_of_not_cleared hcleared, if_neg fun h => hcleared h.2]
  · rw [if_neg fun h => hmode h.1, State.drainTest, if_neg (by simp [hmode])]

theorem RowTracker.measureCadence_eq (row : RowTracker) :
    row.measureCadence = { row with
      cadenceCount := some 0
      cadenceHistory :=
        match row.cadenceCount with
        | none => row.cadenceHistory
        | some n =>
            (if row.cadenceHistory.length < 4 then row.cadenceHistory
              else row.cadenceHistory.tail) ++ [n] } := by
  unfold RowTracker.measureCadence
  cases row.cadenceCount with
  | none => rfl
  | some n => simp only [List.drop_one]

/-- The cadence, the test of the queue and drain completion, after the shift. -/
theorem State.afterShift_eq (s : State) :
    s.cadenceMeasured.testQueue.drainTest = { s with
      row := s.row.measureCadence
      link := { s.link with
        flags :=
          if s.line.mode = .run ∧ s.pool.queue.length < s.line.queueLow then s.link.flags ||| 64
          else s.link.flags }
      line :=
        if s.line.mode = .drain ∧ (∀ p : Fin 40, s.row.measureCadence.positions[p] = none) ∧
            s.exit.state = .empty then { s.line with mode := .stopped, autoHold := none }
        else s.line } := by
  have htest : s.cadenceMeasured.testQueue = { s with
      row := s.row.measureCadence
      link := { s.link with
        flags :=
          if s.line.mode = .run ∧ s.pool.queue.length < s.line.queueLow then s.link.flags ||| 64
          else s.link.flags } } := by
    unfold State.testQueue State.raiseIf State.cadenceMeasured
    by_cases hlow : s.line.mode = .run ∧ s.pool.queue.length < s.line.queueLow
    · rw [if_pos hlow]
      exact if_pos (by simpa using hlow)
    · rw [if_neg hlow]
      exact if_neg (by simpa using hlow)
  rw [htest, State.drainTest_line]

theorem RowTracker.tagAt_congr {row row' : RowTracker} (h : row.positions = row'.positions)
    (p : Nat) : row.tagAt p = row'.tagAt p := by
  rw [RowTracker.tagAt, h, RowTracker.tagAt]

/-- The contents after a shift, position by position (R66). -/
theorem Shifted.contents {s t : State} (h : Shifted s t) (hmax : s.row.length ≤ 40) :
    (∀ p, p + 1 < s.row.length → t.row.tagAt (p + 1) = s.row.tagAt p) ∧
      t.row.tagAt 0 = s.feed ∧
      ∀ p, 1 ≤ p → s.row.length ≤ p → t.row.tagAt p = none := by
  refine ⟨fun p hp => ?_, by rw [h.tagAt, if_pos rfl], fun p hp hlength => ?_⟩
  · rw [h.tagAt, if_neg (by omega), if_pos (by omega), Nat.add_sub_cancel]
  · rw [h.tagAt, if_neg (by omega), if_neg (by omega)]

/-- The queue after a shift, which supplies its head in RUN only (R10). -/
theorem Shifted.queue_eq {s t : State} (h : Shifted s t) :
    t.pool.queue = if s.line.mode = .run then s.pool.queue.tail else s.pool.queue := by
  rw [h.queue, State.feed]
  by_cases hrun : s.line.mode = .run
  · rw [if_pos hrun, if_pos hrun]
    cases s.pool.queue <;> rfl
  · rw [if_neg hrun, if_neg hrun]
    rfl

/-- Outside a hold an edge of PUSH_HOME that finds a stroke moving ends it. -/
theorem exec_strokeEnd_moving {s : State} {e : Transition} (hopen : s.restart.hold = none)
    (hcounts : s.link.edges.pushHome.counts e = true) (hmoving : s.row.stroke = .moving) :
    exec (.strokeEnd e) s =
      .next (State.endStroke { s with pins := { s.pins with pushHome := decide (e = .rising) } }) := by
  refine (exec_strokeEnd_open hopen e).trans (congrArg _ ((if_pos hcounts).trans ?_))
  simp only [State.homeEdge, hmoving]

theorem State.pushesOff_iff (s : State) : s.pushesOff = true ↔
    s.row.tagAt (s.row.length - 1) ≠ none ∧ s.exit.state ≠ .empty := by
  simp [State.pushesOff, RowTracker.ejected, Option.isSome_iff_ne_none]

theorem shiftedPlace_eq (feed last : Option Nat) (r : BilletRecord) :
    shiftedPlace feed last r =
      if feed = some r.tag then .row 0
      else if last = some r.tag then .exit
      else match r.place with
        | .queued => .queued
        | .row p => .row (p + 1)
        | .exit => .exit := by
  unfold shiftedPlace
  cases r.place <;> rfl

/-- Settles O24. -/
theorem strokeEndShiftsTheRow : Obligations.StrokeEndShiftsTheRow := by
  unfold Obligations.StrokeEndShiftsTheRow
  intro s e hopen hcounts hmoving hmin hmax last feed hfree
  let pinned : State := { s with pins := { s.pins with pushHome := decide (e = .rising) } }
  let v := pinned.strokeClosed
  obtain ⟨hshifted, hrow, hpool, hstay, harrive, hframe⟩ := State.shift_freely (s := v) hfree
  have hqueue := hshifted.queue_eq
  have hrecords := hshifted.records
  obtain ⟨hrise, hfirst, hbeyond⟩ := hshifted.contents hmax
  have hquiet : ¬ (pinned.pushesOff && pinned.line.mode.pushing) = true := by
    rw [Bool.and_eq_true, State.pushesOff_iff]
    rintro ⟨⟨hlast, hheld⟩, -⟩
    exact hfree.elim hlast hheld
  have hended : exec (.strokeEnd e) s = .next v.shift.cadenceMeasured.testQueue.drainTest :=
    (exec_strokeEnd_moving hopen hcounts hmoving).trans
      (congrArg _ (pinned.endStroke_eq.trans (if_neg hquiet)))
  rw [State.afterShift_eq] at hended
  generalize v.shift = w at *
  have hline : w.line = s.line := hframe .line (by simp)
  have hlink : w.link = s.link := hframe .link (by simp)
  have hpositions := w.row.measureCadence_positions
  have hcadence := (congrArg RowTracker.measureCadence hrow).trans (RowTracker.measureCadence_eq _)
  refine ⟨_, hended, fun p hp => ?_, ?_, fun p hp => ?_, ?_, ?_, ?_, ?_, ?_, hframe .pins (by simp),
    ?_⟩
  · exact (RowTracker.tagAt_congr hpositions _).trans (hrise p hp)
  · exact (RowTracker.tagAt_congr hpositions _).trans hfirst
  · exact (RowTracker.tagAt_congr hpositions _).trans (hbeyond p (by omega) hp)
  · simp only [hpositions]
    exact hcadence
  · simp only
    rw [hpool, hrecords, hqueue]
    simp only [shiftedPlace_eq] <;> rfl
  · change w.exit = _
    generalize hlast : last = content
    cases content with
    | none => exact hstay hlast
    | some tag => exact harrive tag hlast
  · simp only [hline, hlink]
  · simp only [hline]
  · exact .trans (by simp [v, pinned, State.strokeClosed, unchangedBut_iff])
      ((hframe.mono (by simp)).trans (by simp [unchangedBut_iff]))

/-- Settles O25. -/
theorem pushOffRetiresTheHeldRecord : Obligations.PushOffRetiresTheHeldRecord := by
  unfold Obligations.PushOffRetiresTheHeldRecord
  intro s e tag held hopen hcounts hmoving htags hmax hlast hheld hslot hlive hne feed pushing low
    flags
  let pinned : State := { s with pins := { s.pins with pushHome := decide (e = .rising) } }
  let v := pinned.strokeClosed
  have hvacate := State.vacate_of_slot (s := v) .pushedOff hslot (State.lookup_of_mem htags hlive)
  obtain ⟨hshifted, hrow, hpool, hexit, hlink, hframe⟩ :=
    State.shift_pushing (s := v) hlast hheld
  have hpushes : pinned.pushesOff = true :=
    (State.pushesOff_iff _).mpr ⟨fun hnone => (by cases hnone.symm.trans hlast), hheld⟩
  have hended : exec (.strokeEnd e) s = .next
      (if pinned.line.mode.pushing then
        v.shift.cadenceMeasured.testQueue.drainTest.enterHold .pushOff
      else v.shift.cadenceMeasured.testQueue.drainTest) := by
    refine (exec_strokeEnd_moving hopen hcounts hmoving).trans
      (congrArg _ (pinned.endStroke_eq.trans ?_))
    rw [hpushes, Bool.true_and]
  rw [hvacate] at hshifted hpool hexit hlink hframe
  have hqueue := hshifted.queue_eq
  have hrecords := hshifted.records
  obtain ⟨hrise, hfirst, hbeyond⟩ := hshifted.contents hmax
  rw [State.afterShift_eq] at hended
  generalize v.shift = w at *
  have hline : w.line = s.line := hframe .line (by simp)
  have hpositions := w.row.measureCadence_positions
  have hcadence := (congrArg RowTracker.measureCadence hrow).trans (RowTracker.measureCadence_eq _)
  have hmeasuring : w.exit.state = .measuring := by rw [hexit]
  have hoccupied : ¬ (w.line.mode = .drain ∧
      (∀ p : Fin 40, w.row.measureCadence.positions[p] = none) ∧ w.exit.state = .empty) := by
    rw [hmeasuring]
    rintro ⟨-, -, hempty⟩
    cases hempty
  have hlinked : w.link = { s.link with flags := s.link.flags ||| 1 ||| 32 } := hlink
  rw [if_neg hoccupied, hline, hqueue, hlinked] at hended
  have hflags : (if s.line.mode = .run ∧
      (if s.line.mode = .run then s.pool.queue.tail else s.pool.queue).length < s.line.queueLow then
        s.link.flags ||| 1 ||| 32 ||| 64 else s.link.flags ||| 1 ||| 32) = flags := by
    by_cases hrun : s.line.mode = .run
    · rw [if_pos hrun]
    · rw [if_neg fun h => hrun h.1]
      exact (if_neg fun h : low => hrun h.1).symm
  let leaves : BitVec 10 → LineSequencer → State := fun flags line => { w with
    row := w.row.measureCadence, link := { s.link with flags := flags }, line := line }
  let t : State := leaves (if pushing then flags ||| 16 else flags)
    (if pushing then
      { s.line with mode := .hold, holdCause := some .pushOff, autoHold := none } else s.line)
  have ht : exec (.strokeEnd e) s = .next t := by
    rw [hended]
    refine congrArg _ ?_
    by_cases hpushing : pushing
    · refine (if_pos ((LineMode.pushing_iff _).mpr hpushing)).trans ?_
      simp only [t, if_pos hpushing]
      exact congrArg (fun flags => leaves (flags ||| 16)
        { s.line with mode := .hold, holdCause := some .pushOff, autoHold := none }) hflags
    · refine (if_neg (mt (LineMode.pushing_iff _).mp hpushing)).trans ?_
      simp only [t, if_neg hpushing]
      exact congrArg (leaves · s.line) hflags
  have hejected : ∀ r : BilletRecord, v.row.tagAt (v.row.length - 1) = some r.tag ↔ r.tag = tag := by
    intro r
    rw [show v.row.tagAt (v.row.length - 1) = some tag from hlast, Option.some.injEq, eq_comm]
  have hplaced : w.pool.records =
      (s.pool.records.filter fun r => r.tag != held.tag).map fun r => { r with
        place :=
          if feed = some r.tag then .row 0 else if r.tag = tag then .exit else r.place.advance } := by
    refine hrecords.trans (List.map_congr_left fun r _ => ?_)
    simp only [shiftedPlace, hejected]
    rfl
  refine ⟨t, ht, ?_, hframe .recipes (by simp), ?_, fun p hp => ?_, ?_, fun p hone hp => ?_, ?_,
    rfl, rfl, hframe .pins (by simp), ?_⟩
  · change w.pool = _
    rw [hpool, hplaced, hqueue]
    rfl
  · change w.exit = _
    rw [hexit]
    rfl
  · exact (RowTracker.tagAt_congr hpositions _).trans (hrise p hp)
  · exact (RowTracker.tagAt_congr hpositions _).trans hfirst
  · exact (RowTracker.tagAt_congr hpositions _).trans (hbeyond p hone hp)
  · simp only [t, leaves, hpositions]
    exact hcadence
  · exact .trans (by simp [v, pinned, State.strokeClosed, unchangedBut_iff])
      ((hframe.mono (by simp)).trans (by simp [t, leaves, unchangedBut_iff]))

end Sys2Proof.Machine
end

section
/-! PROOFS. The tuning sequencer: TUNE_ALL, the round notice and the outcomes (R121, R125, R127, R129,
R130). -/

namespace Sys2Proof.Machine

/-! ## TUNE_ALL (R129, R130) -/

theorem State.enabledZones_all_off (s : State) :
    (s.enabledZones.all fun z => s.zones[z].state = .off) = true ↔
      ¬ ∃ z : ZoneId, s.zones[z].map.enabled = true ∧ s.zones[z].state ≠ .off := by
  simp [State.enabledZones, ← Bool.not_eq_true, ← imp_iff_not_or]

/-- The last check of TUNE_ALL, and the start of the pass over the enabled zones. -/
theorem State.startTuneAll_of_enabled {s : State} {first : ZoneId} {rest : List ZoneId}
    (hmode : s.line.mode = .service) (hall : s.tuner.allState ≠ .running)
    (hregular : s.tuner.regularZone = none) (henabled : s.enabledZones = first :: rest) :
    s.startTuneAll =
      if ∃ z : ZoneId, s.zones[z].map.enabled = true ∧ s.zones[z].state ≠ .off then
        refuse .busy s
      else accept (.zones (first :: rest)) (State.sendOrder { s with tuner := { s.tuner with
        allState := .running, allList := openList (first :: rest) } } first) := by
  have hoff := s.enabledZones_all_off
  rw [henabled] at hoff
  unfold State.startTuneAll
  rw [if_neg (not_not.mpr hmode), if_neg hall, if_neg (by simp [hregular]), henabled]
  by_cases hbusy : ∃ z : ZoneId, s.zones[z].map.enabled = true ∧ s.zones[z].state ≠ .off
  · rw [if_pos hbusy]
    exact if_neg fun h => hoff.mp h hbusy
  · rw [if_neg hbusy]
    exact if_pos (hoff.mpr hbusy)

theorem State.tuneDue_eq_some {s : State} {m : NoticeMessage} {z : ZoneId} :
    s.tuneDue m = some z ↔ s.tuner.pointer = some z ∧
      (s.line.mode = .run ∨ s.line.mode = .hold) ∧ s.tuner.regularZone = none ∧
      s.tuner.allState ≠ .running ∧ m.grants[z] = some 0 ∧ s.zones[z].state = .off := by
  simp [State.tuneDue, Option.filter_eq_some_iff, and_assoc]

/-- Settles O40. -/
theorem tuneOrdersSent : Obligations.TuneOrdersSent := by
  unfold Obligations.TuneOrdersSent
  refine ⟨?_, ?_⟩
  · intro s c h refused enabled
    have hexec : exec (.tuneAll c) s = s.request c State.startTuneAll := rfl
    have hrefused : ∀ {status}, (s.settleFetch c).startTuneAll = refuse status (s.settleFetch c) →
        refused status := fun hact => State.request_of_unchanged h hact
    have hact : (s.settleFetch c).startTuneAll = if s.line.mode ≠ .service then _ else _ := rfl
    split <;> rename_i hmode
    · exact hrefused (hact.trans (if_pos hmode))
    replace hact := hact.trans (if_neg hmode)
    split <;> rename_i hall
    · exact hrefused (hact.trans (if_pos hall))
    replace hact := hact.trans (if_neg hall)
    split <;> rename_i hregular
    · exact hrefused (hact.trans (if_pos (Option.isSome_iff_ne_none.mpr hregular)))
    replace hact := hact.trans (if_neg (mt Option.isSome_iff_ne_none.mp hregular))
    have henabled : (s.settleFetch c).enabledZones = enabled := rfl
    split <;> rename_i hempty
    · rw [henabled, hempty] at hact
      exact hrefused hact
    obtain ⟨first, rest, hzones⟩ := List.exists_cons_of_ne_nil hempty
    have hstart := State.startTuneAll_of_enabled (s := s.settleFetch c) (not_not.mp hmode) hall
      (not_not.mp hregular) (henabled.trans hzones)
    split <;> rename_i hbusy
    · exact hrefused (hstart.trans (if_pos hbusy))
    intro first' rest' hzones'
    obtain ⟨rfl, rfl⟩ := List.cons.inj (hzones.symm.trans hzones')
    rw [hexec, hzones]
    exact (State.request_of_change h State.startTuneAll (hstart.trans (if_neg hbusy)) rfl).trans rfl
  · intro s m rest hopen hnotices due
    let taken : State := { s with mail := { s.mail with notices := rest } }
    have hexec : exec .roundNotice s = .next (taken.actOnNotice m) := by
      refine (State.event_open hopen State.takeNotice).trans (congrArg _ ?_)
      simp only [State.takeNotice, hnotices, taken]
    rw [hexec]
    refine ⟨fun z hdue => ?_, fun hnone => ?_⟩
    · have htune : taken.tuneDue m = some z := State.tuneDue_eq_some.mpr hdue
      simp only [State.actOnNotice, htune]
      rfl
    · have htune : taken.tuneDue m = none :=
        Option.eq_none_iff_forall_ne_some.mpr fun z hz => hnone z (State.tuneDue_eq_some.mp hz)
      simp only [State.actOnNotice, htune, taken]

/-! ## Outcomes (R127, R130) -/

theorem State.advancePointer_eq (s : State) (z : ZoneId) :
    s.advancePointer z = { s with tuner := { s.tuner with
      pointer :=
        if s.tuner.pointer = some z then
          ((List.range 12).map fun k => Fin.ofNat 12 (z.val + 1 + k)).find? fun y =>
            s.zones[y].map.enabled
        else s.tuner.pointer } } := by
  unfold State.advancePointer State.nextPointed
  rw [cyclicOrder_eq]
  split <;> rfl

theorem State.endRegular_eq (s : State) (z : ZoneId) (o : TuneOutcome) :
    s.endRegular z o = { s with tuner := { s.tuner with
      regularZone := none
      pointer :=
        if (o = .succeeded ∨ o = .failed) ∧ s.tuner.pointer = some z then
          ((List.range 12).map fun k => Fin.ofNat 12 (z.val + 1 + k)).find? fun y =>
            s.zones[y].map.enabled
        else s.tuner.pointer } } := by
  cases o <;> simp [State.endRegular, State.advancePointer_eq]

theorem setResult_middle {z : ZoneId} {r r' : TuneResult} {before after : List (ZoneId × TuneResult)}
    (h : ∀ x ∈ before ++ after, x.1 ≠ z) :
    setResult z r (before ++ (z, r') :: after) = before ++ (z, r) :: after := by
  have hall : ∀ l : List (ZoneId × TuneResult), (∀ x ∈ l, x.1 ≠ z) → setResult z r l = l :=
    fun l hl => (List.map_congr_left fun x hx => if_neg (hl x hx)).trans (List.map_id' l)
  have hbefore := hall before fun x hx => h x (List.mem_append_left _ hx)
  have hafter := hall after fun x hx => h x (List.mem_append_right _ hx)
  simp only [setResult] at hbefore hafter ⊢
  rw [List.map_append, List.map_cons, hbefore, hafter, if_pos rfl]

/-- Before a list with no PENDING entry and after it, the first PENDING entry is the same. -/
theorem firstWaiting_append {done later : List (ZoneId × TuneResult)}
    (h : ∀ x ∈ done, x.2 ≠ .waiting) : firstWaiting (done ++ later) = firstWaiting later := by
  have hnone : (done.find? fun e => e.2 == .waiting) = none :=
    List.find?_eq_none.mpr fun x hx => by simpa using h x hx
  rw [firstWaiting, List.find?_append, hnone, Option.none_or, firstWaiting]

theorem zoneInProgress_middle {z : ZoneId} {done waiting : List (ZoneId × TuneResult)}
    (h : ∀ x ∈ done, x.2 ≠ .inProgress) :
    zoneInProgress (done ++ (z, .inProgress) :: waiting) = some z := by
  have hnone : (done.find? fun e => e.2 == .inProgress) = none :=
    List.find?_eq_none.mpr fun x hx => by simpa using h x hx
  rw [zoneInProgress, List.find?_append, hnone, Option.none_or]
  rfl

theorem mem_of_zoneInProgress {z : ZoneId} {list : List (ZoneId × TuneResult)}
    (h : zoneInProgress list = some z) : (z, TuneResult.inProgress) ∈ list := by
  obtain ⟨⟨y, r⟩, hfind, rfl⟩ := Option.map_eq_some_iff.mp h
  have hresult : r = .inProgress := by simpa using List.find?_some hfind
  exact hresult ▸ List.mem_of_find?_eq_some hfind

/-- The outcome of the zone in progress writes its result, and orders the next zone or ends the pass. -/
theorem State.advanceTuneAll_eq {s : State} {z : ZoneId} {o : TuneOutcome}
    {done waiting : List (ZoneId × TuneResult)}
    (hlist : s.tuner.allList = done ++ (z, .inProgress) :: waiting)
    (hothers : ∀ x ∈ done ++ waiting, x.1 ≠ z) (hdone : ∀ x ∈ done, x.2 ≠ .waiting)
    (hwaiting : ∀ x ∈ waiting, x.2 = .waiting) (hnodup : (s.tuner.allList.map Prod.fst).Nodup)
    (hresult : resultOf o ≠ .waiting) :
    s.advanceTuneAll z o =
      match waiting with
      | [] => { s with tuner := { s.tuner with
          allState := .done, allList := done ++ [(z, resultOf o)]
          pointer := (List.finRange 12).find? fun y => s.zones[y].map.enabled } }
      | (y, _) :: later => State.sendOrder { s with tuner := { s.tuner with
          allList := done ++ (z, resultOf o) :: (y, .inProgress) :: later } } y := by
  have hset : setResult z (resultOf o) s.tuner.allList = done ++ (z, resultOf o) :: waiting := by
    rw [hlist, setResult_middle hothers]
  have hwritten : ∀ x ∈ done ++ [(z, resultOf o)], x.2 ≠ .waiting := by
    intro x hx
    rcases List.mem_append.mp hx with hx | hx
    · exact hdone x hx
    · rw [List.mem_singleton.mp hx]
      exact hresult
  have hfirst : firstWaiting (done ++ (z, resultOf o) :: waiting) = firstWaiting waiting := by
    rw [List.append_cons, firstWaiting_append hwritten]
  simp only [State.advanceTuneAll, hset, hfirst]
  cases waiting with
  | nil =>
    simp only [firstWaiting, List.find?_nil, Option.map_none, State.pointLowest_eq]
  | cons x later =>
    obtain ⟨y, r⟩ := x
    obtain rfl : r = .waiting := hwaiting (y, r) (by simp)
    have hother : ∀ x ∈ (done ++ [(z, resultOf o)]) ++ later, x.1 ≠ y := by
      intro x hx heq
      rw [hlist, List.append_cons, List.map_append, List.map_cons, List.nodup_middle,
        List.nodup_cons] at hnodup
      refine hnodup.1 (heq ▸ ?_)
      simp only [List.map_append, List.mem_append, List.mem_map, List.map_cons, List.map_nil,
        List.mem_cons, List.not_mem_nil, or_false] at hx ⊢
      rcases hx with (hx | rfl) | hx
      · exact .inl (.inl ⟨x, hx, rfl⟩)
      · exact .inl (.inr rfl)
      · exact .inr ⟨x, hx, rfl⟩
    have hordered : setResult y .inProgress (done ++ (z, resultOf o) :: (y, .waiting) :: later) =
        done ++ (z, resultOf o) :: (y, .inProgress) :: later := by
      rw [List.append_cons, setResult_middle hother, ← List.append_cons]
    have hnext : firstWaiting ((y, .waiting) :: later) = some y := rfl
    simp only [hnext, hordered]

/-- Settles O41. -/
theorem outcomeEndsItsTuning : Obligations.OutcomeEndsItsTuning := by
  unfold Obligations.OutcomeEndsItsTuning
  intro s z o before after hopen houtcomes hbefore taken enabled
  have hexec : exec (.tuneOutcome z) s = .next (taken.actOnOutcome z o) := by
    refine (State.event_open hopen fun s => s.takeOutcome z).trans (congrArg _ ?_)
    simp only [State.takeOutcome, houtcomes, takeFirst_zone hbefore, taken]
  rw [hexec]
  refine ⟨fun hregular => ?_, ?_, fun hregular hother => ?_⟩
  · exact congrArg _ ((if_pos hregular).trans (State.endRegular_eq taken z o))
  · intro hregular hall done waiting result hlist hothers hdone hwaiting hnodup hresult
    have hresultOf : resultOf o = result := by
      rcases hresult with ⟨rfl, rfl⟩ | ⟨rfl, rfl⟩ | ⟨rfl, rfl⟩ <;> rfl
    have hwritten : resultOf o ≠ .waiting := by
      rcases hresult with ⟨rfl, rfl⟩ | ⟨rfl, rfl⟩ | ⟨rfl, rfl⟩ <;> nofun
    have hprogress : zoneInProgress s.tuner.allList = some z := by
      rw [hlist, zoneInProgress_middle fun x hx => (hdone x hx).1]
    have hpass : taken.actOnOutcome z o = taken.advanceTuneAll z o :=
      (if_neg hregular).trans (if_pos (by simp [taken, hall, hprogress]))
    rw [hpass, State.advanceTuneAll_eq (s := taken) hlist hothers (fun x hx => (hdone x hx).2)
      hwaiting hnodup hwritten, hresultOf]
    cases waiting with
    | nil => rfl
    | cons x later => rfl
  · have hdiscard : ¬ (taken.tuner.allState = .running &&
        zoneInProgress taken.tuner.allList = some z) = true := by
      rw [Bool.and_eq_true, decide_eq_true_eq, decide_eq_true_eq]
      rintro ⟨hall, hprogress⟩
      exact hother.elim (fun hidle => hidle hall)
        (fun habsent => habsent (mem_of_zoneInProgress hprogress))
    exact congrArg _ ((if_neg hregular).trans (if_neg hdiscard))

end Sys2Proof.Machine
end

section
/-! PROOFS. The arbitration: exclusions, the level pass zone by zone, the settlement (R104 to R116). -/

namespace Sys2Proof.Machine

/-! ## MIN_ON, commitment and exclusion (R105, R106) -/

theorem ZoneState.running_iff (st : ZoneState) : st.running = true ↔ st = .starting ∨ st = .on := by
  cases st <;> simp [ZoneState.running]

theorem ZoneChannel.metMinOn_iff (now : Nat) (c : ZoneChannel) :
    c.metMinOn now = true ↔
      c.state = .on ∧ ∃ since, c.onSince = some since ∧ 2000 ≤ now - since := by
  simp only [ZoneChannel.metMinOn, Option.any_eq_true, Bool.and_eq_true, decide_eq_true_eq]
  rfl

theorem ZoneChannel.committed_iff (now : Nat) (c : ZoneChannel) :
    c.committed now = true ↔ (c.state = .starting ∨ c.state = .on) ∧ c.metMinOn now = false := by
  simp [ZoneChannel.committed, ZoneState.running_iff]

/-- The first exclusion that holds, as R105 lists them. -/
theorem State.exclusion_eq (s : State) (z : ZoneId) :
    s.exclusion z =
      if s.zones[z].state = .stopping ∨ s.zones[z].state = .tuning ∨
          s.zones[z].state = .faulted then some .exclState
      else if s.zones[z].metMinOn s.clock.count = true ∧ s.zones[z].pendingBand ≠ none then
        some .exclBand
      else if s.tuner.pointer = some z ∧ s.tuner.window ≤ s.zones[z].tuningAge ∧
          (s.zones[z].state = .off ∨ s.zones[z].metMinOn s.clock.count = true) then
        some .exclTuning
      else none := by
  simp only [State.exclusion, Bool.or_eq_true, Bool.and_eq_true, decide_eq_true_eq, or_assoc,
    and_assoc, Option.isSome_iff_ne_none]

/-- A zone that is not excluded is OFF, STARTING or ON. -/
theorem State.state_of_not_excluded {s : State} {z : ZoneId} (h : s.exclusion z = none) :
    s.zones[z].state = .off ∨ s.zones[z].state = .starting ∨ s.zones[z].state = .on := by
  rw [State.exclusion_eq] at h
  split at h
  · cases h
  · rename_i hstate
    revert hstate
    cases s.zones[z].state <;> simp

/-- A committed zone is excluded by nothing. -/
theorem State.not_excluded_of_committed {s : State} {z : ZoneId}
    (h : s.zones[z].committed s.clock.count = true) : s.exclusion z = none := by
  obtain ⟨hrunning, hmet⟩ := (ZoneChannel.committed_iff _ _).mp h
  rw [State.exclusion_eq, hmet]
  rcases hrunning with hstate | hstate <;>
    simp only [hstate, reduceCtorEq, or_self, false_and, and_false, Bool.false_eq_true, if_false]

/-! ## One zone's step of the level pass, as a verdict (R107 to R109) -/

/-- What one zone's step decides: its grant and the share taken, the disposition, and whether it enters a
start or defers one. -/
structure Verdict where
  grant : Nat
  taken : Nat
  why : Disposition
  starts : Bool
  defers : Bool

/-- The step's decision for a zone with the opening entry `e`, by the budget and the start history. -/
def State.verdict (s : State) (z : ZoneId) (e : ZoneSettlement) (budget : Nat)
    (history : List Nat) : Verdict :=
  let want := e.demand - e.committed
  let offered := min want budget
  if s.zones[z].committed s.clock.count then
    ⟨e.committed + offered, offered, if offered = 0 then .committed else .granted, false, false⟩
  else if want = 0 then ⟨0, 0, .noDemand, false, false⟩
  else if offered < s.zones[z].map.minKW then ⟨0, 0, .belowMin, false, false⟩
  else if s.zones[z].state.running then ⟨offered, offered, .granted, false, false⟩
  else if eligible s.clock.count history then ⟨offered, offered, .granted, true, false⟩
  else ⟨0, 0, .deferred, false, true⟩

/-- The pass after a zone's verdict. -/
def Pass.settle (p : Pass) (now : Nat) (z : ZoneId) (e : ZoneSettlement) (v : Verdict) : Pass :=
  { budget := p.budget - v.taken
    history := if v.starts then enterStart now p.history else p.history
    deferred := p.deferred + v.defers.toNat
    entries := p.entries.set z (some { e with grant := v.grant, disposition := v.why })
    shares := p.shares.set z v.taken }

/-- The opening entry of an expected zone that is not excluded (R105, R106). -/
def State.servedEntry (s : State) (z : ZoneId) : ZoneSettlement :=
  let demand := s.feeder.demands[z].getD 0
  if s.zones[z].committed s.clock.count then
    { demand := demand, committed := s.zones[z].map.minKW, grant := s.zones[z].map.minKW
      disposition := .committed }
  else { demand := demand, committed := 0, grant := 0, disposition := .noDemand }

theorem State.servedEntry_committed {s : State} {z : ZoneId}
    (h : s.zones[z].committed s.clock.count = true) :
    (s.servedEntry z).committed = s.zones[z].map.minKW ∧
      (s.servedEntry z).grant = (s.servedEntry z).committed ∧
      (s.servedEntry z).disposition = .committed := by
  rw [State.servedEntry, if_pos h]
  exact ⟨rfl, rfl, rfl⟩

theorem State.servedEntry_uncommitted {s : State} {z : ZoneId}
    (h : ¬ s.zones[z].committed s.clock.count = true) :
    (s.servedEntry z).committed = 0 ∧ (s.servedEntry z).grant = 0 ∧
      (s.servedEntry z).disposition = .noDemand := by
  rw [State.servedEntry, if_neg h]
  exact ⟨rfl, rfl, rfl⟩

theorem State.servedEntry_demand (s : State) (z : ZoneId) :
    (s.servedEntry z).demand = s.feeder.demands[z].getD 0 := by
  unfold State.servedEntry
  split <;> rfl

theorem State.openingEntry_served {s : State} {z : ZoneId} (hexpected : s.feeder.expected[z] = true)
    (hfree : s.exclusion z = none) : s.openingEntry z = some (s.servedEntry z) := by
  simp only [State.openingEntry, hexpected, hfree, if_true, State.servedEntry]
  split <;> rfl

theorem State.openingEntry_excluded {s : State} {z : ZoneId} {why : Disposition}
    (hexpected : s.feeder.expected[z] = true) (h : s.exclusion z = some why) :
    s.openingEntry z = some ⟨s.feeder.demands[z].getD 0, 0, 0, why⟩ := by
  simp only [State.openingEntry, hexpected, h, if_true]

theorem State.openingEntry_unexpected {s : State} {z : ZoneId}
    (hexpected : s.feeder.expected[z] = false) : s.openingEntry z = none := by
  simp only [State.openingEntry, hexpected, Bool.false_eq_true, if_false]

/-- A step on a zone that stands as it was opened is its verdict. -/
theorem State.levelStep_eq {s : State} {p : Pass} {z : ZoneId}
    (hentry : p.entries[z] = some (s.servedEntry z)) (hshare : p.shares[z] = 0) :
    s.levelStep p z =
      p.settle s.clock.count z (s.servedEntry z)
        (s.verdict z (s.servedEntry z) p.budget p.history) := by
  have hkept : ∀ v : Verdict, v.grant = (s.servedEntry z).grant →
      v.why = (s.servedEntry z).disposition → v.taken = 0 → v.starts = false → v.defers = false →
      p.settle s.clock.count z (s.servedEntry z) v = p := by
    rintro ⟨grant, taken, why, starts, defers⟩ hgrant hwhy htaken hstarts hdefers
    simp only at hgrant hwhy htaken hstarts hdefers
    subst hgrant hwhy htaken hstarts hdefers
    have hset : p.entries.set z (some (s.servedEntry z)) = p.entries := by
      rw [← hentry]
      exact Vector.set_getElem_self _
    have hshares : p.shares.set z 0 = p.shares := by
      rw [← hshare]
      exact Vector.set_getElem_self _
    simp only [Pass.settle, hset, hshares]
    rfl
  unfold State.levelStep
  split
  · rename_i hnone
    cases hnone.symm.trans hentry
  rename_i e he
  obtain rfl : s.servedEntry z = e := Option.some.inj (hentry.symm.trans he)
  unfold State.verdict
  simp only
  have hcommitted := State.servedEntry_committed (s := s) (z := z)
  have huncommitted := State.servedEntry_uncommitted (s := s) (z := z)
  generalize s.servedEntry z = e at *
  by_cases hcommits : s.zones[z].committed s.clock.count = true
  · obtain ⟨-, hgrant, hdisposition⟩ := hcommitted hcommits
    rw [if_pos hcommits, if_pos hcommits]
    by_cases hnone : min (e.demand - e.committed) p.budget = 0
    · refine Eq.trans ?_ (hkept _ ?_ ?_ hnone rfl rfl).symm
      · rw [if_pos hnone, ite_self]
      · rw [hnone, hgrant, Nat.add_zero]
      · rw [if_pos hnone, hdisposition]
    · have hwant : ¬ e.demand - e.committed = 0 := fun h => hnone (by rw [h, Nat.zero_min])
      rw [if_neg hwant, if_neg hnone, if_neg hnone]
      rfl
  · obtain ⟨hzero, hgrant, hdisposition⟩ := huncommitted hcommits
    rw [if_neg hcommits, if_neg hcommits]
    by_cases hwant : e.demand - e.committed = 0
    · rw [if_pos hwant, if_pos hwant]
      exact (hkept _ hgrant.symm hdisposition.symm rfl rfl rfl).symm
    rw [if_neg hwant, if_neg hwant]
    have hdenied : ∀ why, p.deny z e why =
        p.settle s.clock.count z e ⟨0, 0, why, false, false⟩ := by
      intro why
      have hshares : p.shares.set z 0 = p.shares := by
        rw [← hshare]
        exact Vector.set_getElem_self _
      simp only [Pass.settle, hshares]
      rfl
    have hgiven : ∀ share, p.give z e share =
        p.settle s.clock.count z e ⟨share, share, .granted, false, false⟩ := by
      intro share
      have hsum : e.committed + share = share := by rw [hzero, Nat.zero_add]
      simp only [Pass.give, hsum]
      rfl
    by_cases hbelow : min (e.demand - e.committed) p.budget < s.zones[z].map.minKW
    · rw [if_pos hbelow, if_pos hbelow, hdenied]
    rw [if_neg hbelow, if_neg hbelow]
    by_cases hrunning : s.zones[z].state.running = true
    · rw [if_pos hrunning, if_pos hrunning, hgiven]
    rw [if_neg hrunning, if_neg hrunning]
    by_cases heligible : eligible s.clock.count p.history = true
    · rw [if_pos heligible, if_pos heligible, hgiven]
      rfl
    · rw [if_neg heligible, if_neg heligible, hdenied]
      rfl

/-! ## The order of service and the pass after each zone (R107) -/

/-- The zones of the level pass, level by level, each level in its service order. -/
def State.served (s : State) : List ZoneId :=
  s.serviceOrder 0 ++ s.serviceOrder 1 ++ s.serviceOrder 2 ++ s.serviceOrder 3

/-- The pass when `k` zones have been served. -/
def State.passAt (s : State) (k : Nat) : Pass := (s.served.take k).foldl s.levelStep s.openPass

theorem cyclicAfter_nodup (n : ZoneId) : (cyclicAfter n).Nodup :=
  (List.nodup_finRange 12).map fun a b h => by simpa using h

theorem mem_cyclicAfter (n z : ZoneId) : z ∈ cyclicAfter n :=
  List.mem_map.mpr ⟨z - n - 1, List.mem_finRange _, by abel⟩

theorem State.mem_serviceOrder {s : State} {l : Level} {z : ZoneId} :
    z ∈ s.serviceOrder l ↔
      s.feeder.expected[z] = true ∧ s.zones[z].map.level = l ∧ s.exclusion z = none := by
  simp only [State.serviceOrder, List.mem_filter, mem_cyclicAfter, true_and, Bool.and_eq_true,
    decide_eq_true_eq, Option.isNone_iff_eq_none, and_assoc]

theorem State.mem_served {s : State} {z : ZoneId} :
    z ∈ s.served ↔ s.feeder.expected[z] = true ∧ s.exclusion z = none := by
  simp only [State.served, List.mem_append, State.mem_serviceOrder]
  constructor
  · tauto
  · rintro ⟨hexpected, hfree⟩
    generalize s.zones[z].map.level = l
    fin_cases l <;> simp [hexpected, hfree]

theorem State.served_nodup (s : State) : s.served.Nodup := by
  have hlevel : ∀ l, (s.serviceOrder l).Nodup := fun l => (cyclicAfter_nodup _).filter _
  have hapart : ∀ {l l' : Level}, l ≠ l' → ∀ z ∈ s.serviceOrder l, ∀ y ∈ s.serviceOrder l',
      z ≠ y := by
    rintro l l' hne z hz y hy rfl
    exact hne ((State.mem_serviceOrder.mp hz).2.1.symm.trans (State.mem_serviceOrder.mp hy).2.1)
  simp only [State.served, List.nodup_append, List.mem_append]
  refine ⟨⟨⟨hlevel 0, hlevel 1, hapart (by decide)⟩, hlevel 2, ?_⟩, hlevel 3, ?_⟩
  · rintro z (hz | hz)
    · exact hapart (by decide) z hz
    · exact hapart (by decide) z hz
  · rintro z ((hz | hz) | hz)
    · exact hapart (by decide) z hz
    · exact hapart (by decide) z hz
    · exact hapart (by decide) z hz

theorem State.levelPass_eq (s : State) :
    s.levelPass s.openPass = s.passAt s.served.length := by
  have hlevels : List.finRange 4 = [0, 1, 2, 3] := by decide
  simp only [State.levelPass, State.passAt, List.take_length, State.served, List.foldl_append,
    hlevels, List.foldl_cons, List.foldl_nil]

theorem vector_set_same {α : Type} {n : Nat} (v : Vector α n) (k : Fin n) (a : α) :
    (v.set k a)[k] = a := by
  simp

theorem vector_set_other {α : Type} {n : Nat} (v : Vector α n) {j k : Fin n} (h : j ≠ k) (a : α) :
    (v.set k a)[j] = v[j] := by
  have hne : k.val ≠ j.val := fun heq => h (Fin.ext heq.symm)
  simp [hne]

theorem State.served_take {s : State} {k : Nat} {z : ZoneId} (h : s.served[k]? = some z) :
    s.served.take (k + 1) = s.served.take k ++ [z] := by
  rw [List.take_add_one, h, Option.toList_some]

theorem State.not_served_before {s : State} {k : Nat} {z : ZoneId} (h : s.served[k]? = some z) :
    z ∉ s.served.take k := by
  have hnodup : (s.served.take (k + 1)).Nodup := s.served_nodup.sublist (List.take_sublist _ _)
  rw [State.served_take h] at hnodup
  intro hmem
  exact (List.nodup_append.mp hnodup).2.2 z hmem z (List.mem_singleton.mpr rfl) rfl

theorem State.passAt_of_length_le {s : State} {k : Nat} (h : s.served.length ≤ k) :
    s.passAt (k + 1) = s.passAt k := by
  rw [State.passAt, State.passAt, List.take_of_length_le h, List.take_of_length_le (by omega)]

theorem State.passAt_step {s : State} {k : Nat} {z : ZoneId} (h : s.served[k]? = some z) :
    s.passAt (k + 1) = s.levelStep (s.passAt k) z := by
  rw [State.passAt, State.served_take h, List.foldl_append]
  rfl

theorem State.served_spec {s : State} {k : Nat} {z : ZoneId} (h : s.served[k]? = some z) :
    s.feeder.expected[z] = true ∧ s.exclusion z = none :=
  State.mem_served.mp (List.mem_of_getElem? h)

/-- The decision of the `k`-th step, for the zone it serves. -/
def State.verdictAt (s : State) (k : Nat) (z : ZoneId) : Verdict :=
  s.verdict z (s.servedEntry z) (s.passAt k).budget (s.passAt k).history

/-- A zone not yet served stands as it was opened. -/
theorem State.passAt_unserved (s : State) : ∀ (k : Nat) (z : ZoneId), z ∉ s.served.take k →
    (s.passAt k).entries[z] = s.openingEntry z ∧ (s.passAt k).shares[z] = 0
  | 0, z, _ => by simp [State.passAt, State.openPass]
  | k + 1, z, hz => by
    cases hserved : s.served[k]? with
    | none =>
      have hlength : s.served.length ≤ k := List.getElem?_eq_none_iff.mp hserved
      rw [State.passAt_of_length_le hlength]
      rw [List.take_of_length_le (by omega)] at hz
      exact s.passAt_unserved k z fun hmem => hz (List.mem_of_mem_take hmem)
    | some y =>
      obtain ⟨hexpected, hfree⟩ := State.served_spec hserved
      obtain ⟨hentry, hshare⟩ := s.passAt_unserved k y (State.not_served_before hserved)
      rw [State.openingEntry_served hexpected hfree] at hentry
      rw [State.served_take hserved, List.mem_append, List.mem_singleton] at hz
      obtain ⟨hbefore, hne⟩ := not_or.mp hz
      obtain ⟨hstands, hnothing⟩ := s.passAt_unserved k z hbefore
      rw [State.passAt_step hserved, State.levelStep_eq hentry hshare, ← hstands, ← hnothing]
      exact ⟨vector_set_other _ hne _, vector_set_other _ hne _⟩

/-- The step of the `k`-th zone is its verdict. -/
theorem State.passAt_succ {s : State} {k : Nat} {z : ZoneId} (h : s.served[k]? = some z) :
    s.passAt (k + 1) =
      (s.passAt k).settle s.clock.count z (s.servedEntry z) (s.verdictAt k z) := by
  obtain ⟨hexpected, hfree⟩ := State.served_spec h
  obtain ⟨hentry, hshare⟩ := s.passAt_unserved k z (State.not_served_before h)
  rw [State.openingEntry_served hexpected hfree] at hentry
  rw [State.passAt_step h, State.levelStep_eq hentry hshare]
  rfl

/-- A zone served keeps its verdict to the end of the pass. -/
theorem State.passAt_kept {s : State} {k : Nat} {z : ZoneId} (h : s.served[k]? = some z) :
    ∀ m : Nat, k < m →
      (s.passAt m).entries[z] = some { s.servedEntry z with
        grant := (s.verdictAt k z).grant, disposition := (s.verdictAt k z).why } ∧
      (s.passAt m).shares[z] = (s.verdictAt k z).taken := by
  intro m hm
  induction m, hm using Nat.le_induction with
  | base =>
    rw [Nat.succ_eq_add_one, State.passAt_succ h]
    exact ⟨vector_set_same _ _ _, vector_set_same _ _ _⟩
  | succ m hm ih =>
    cases hserved : s.served[m]? with
    | none =>
      rw [State.passAt_of_length_le (List.getElem?_eq_none_iff.mp hserved)]
      exact ih
    | some y =>
      have hne : z ≠ y := by
        rintro rfl
        have hbefore : (s.served.take m)[k]? = some z := by rw [List.getElem?_take_of_lt hm, h]
        exact State.not_served_before hserved (List.mem_of_getElem? hbefore)
      rw [State.passAt_succ hserved, ← ih.1, ← ih.2]
      exact ⟨vector_set_other _ hne _, vector_set_other _ hne _⟩

/-- Whether a zone is served at a place of the order of service. -/
theorem State.exists_served {s : State} {z : ZoneId} (hexpected : s.feeder.expected[z] = true)
    (hfree : s.exclusion z = none) : ∃ k, k < s.served.length ∧ s.served[k]? = some z := by
  obtain ⟨k, hk, hz⟩ := List.mem_iff_getElem.mp (State.mem_served.mpr ⟨hexpected, hfree⟩)
  exact ⟨k, hk, by rw [List.getElem?_eq_getElem hk, hz]⟩

/-! ## The settlement's entries (R104, R105, R116) -/

theorem State.arbitrationPass_of_production {s : State} (h : s.line.mode.production = true) :
    s.arbitrationPass = s.passAt s.served.length := by
  rw [State.arbitrationPass, if_pos h, State.levelPass_eq]

theorem State.arbitrationPass_of_idle {s : State} (h : s.line.mode.production = false) :
    s.arbitrationPass = s.idlePass := by
  rw [State.arbitrationPass, h]
  rfl

theorem State.idlePass_entry (s : State) (z : ZoneId) :
    s.idlePass.entries[z] =
      if s.feeder.expected[z] then some ⟨s.feeder.demands[z].getD 0, 0, 0, .mode⟩ else none := by
  simp [State.idlePass]

/-- An expected zone's entry: excluded, or served with its verdict. -/
theorem State.finalEntry_cases (s : State) {z : ZoneId} (hexpected : s.feeder.expected[z] = true) :
    (∃ why, s.exclusion z = some why ∧ (s.passAt s.served.length).entries[z] =
        some ⟨s.feeder.demands[z].getD 0, 0, 0, why⟩) ∨
      ∃ k, k < s.served.length ∧ s.served[k]? = some z ∧
        (s.passAt s.served.length).entries[z] = some { s.servedEntry z with
          grant := (s.verdictAt k z).grant, disposition := (s.verdictAt k z).why } := by
  cases hexclusion : s.exclusion z with
  | some why =>
    have hunserved : z ∉ s.served.take s.served.length := fun hmem => by
      cases hexclusion.symm.trans (State.mem_served.mp (List.mem_of_mem_take hmem)).2
    exact .inl ⟨why, rfl, (s.passAt_unserved _ z hunserved).1.trans
      (State.openingEntry_excluded hexpected hexclusion)⟩
  | none =>
    obtain ⟨k, hk, hz⟩ := State.exists_served hexpected hexclusion
    exact .inr ⟨k, hk, hz, (State.passAt_kept hz _ hk).1⟩

theorem State.finalEntry_unexpected (s : State) {z : ZoneId}
    (hexpected : s.feeder.expected[z] = false) :
    (s.passAt s.served.length).entries[z] = none := by
  have hunserved : z ∉ s.served.take s.served.length := fun hmem => by
    cases hexpected.symm.trans (State.mem_served.mp (List.mem_of_mem_take hmem)).1
  rw [(s.passAt_unserved _ z hunserved).1, State.openingEntry_unexpected hexpected]

/-! ## What a verdict can be (R107 to R109) -/

theorem State.verdict_committed {s : State} {z : ZoneId} {e : ZoneSettlement} {budget : Nat}
    {history : List Nat} (h : s.zones[z].committed s.clock.count = true) :
    s.verdict z e budget history =
      ⟨e.committed + min (e.demand - e.committed) budget, min (e.demand - e.committed) budget,
        if min (e.demand - e.committed) budget = 0 then .committed else .granted, false, false⟩ :=
  if_pos h

/-- A zone that is not committed is granted nothing, or what it is offered, which is its minimum at
least; an OFF zone is granted by a start alone, and a start is an OFF zone's. -/
theorem State.verdict_uncommitted {s : State} {z : ZoneId} {e : ZoneSettlement} {budget : Nat}
    {history : List Nat} (h : ¬ s.zones[z].committed s.clock.count = true)
    {v : Verdict} (hv : s.verdict z e budget history = v) :
    (v.grant = 0 ∧ v.taken = 0 ∧ v.starts = false) ∨
      (v.grant = min (e.demand - e.committed) budget ∧ v.taken = v.grant ∧ v.why = .granted ∧
        s.zones[z].map.minKW ≤ v.grant ∧
        (s.zones[z].state.running = true ∧ v.starts = false ∨
          s.zones[z].state.running = false ∧ eligible s.clock.count history = true ∧
            v.starts = true)) := by
  subst hv
  unfold State.verdict
  simp only [if_neg h]
  split_ifs with hwant hbelow hrunning heligible
  · exact .inl ⟨rfl, rfl, rfl⟩
  · exact .inl ⟨rfl, rfl, rfl⟩
  · exact .inr ⟨rfl, rfl, rfl, Nat.le_of_not_lt hbelow, .inl ⟨hrunning, rfl⟩⟩
  · exact .inr ⟨rfl, rfl, rfl, Nat.le_of_not_lt hbelow,
      .inr ⟨Bool.eq_false_iff.mpr hrunning, heligible, rfl⟩⟩
  · exact .inl ⟨rfl, rfl, rfl⟩

/-- A verdict's grant is the committed amount and the share taken, and the share lies within the
budget. -/
theorem State.verdictAt_fills (s : State) (k : Nat) (z : ZoneId) :
    (s.verdictAt k z).grant = (s.servedEntry z).committed + (s.verdictAt k z).taken ∧
      (s.verdictAt k z).taken ≤ (s.passAt k).budget := by
  by_cases hcommits : s.zones[z].committed s.clock.count = true
  · rw [State.verdictAt, State.verdict_committed hcommits]
    exact ⟨rfl, Nat.min_le_right _ _⟩
  · obtain ⟨hzero, -⟩ := State.servedEntry_uncommitted hcommits
    obtain ⟨hgrant, htaken, -⟩ | ⟨hgrant, htaken, -⟩ :=
      State.verdict_uncommitted hcommits (v := s.verdictAt k z) rfl
    · rw [hgrant, htaken, hzero]
      exact ⟨rfl, Nat.zero_le _⟩
    · rw [htaken, hzero, Nat.zero_add]
      exact ⟨rfl, hgrant ▸ Nat.min_le_right _ _⟩

/-! ## Limits of a grant (R105, R106, R108) -/

theorem State.recorded_entry {s : State} {record : Settlement}
    (h : s.arbitrate.feeder.settlement = some record) :
    record.zones = s.arbitrationPass.entries ∧ record.budgetLeft = s.arbitrationPass.budget ∧
      record.limit = s.feeder.feederLimit := by
  obtain rfl := Option.some.inj h
  exact ⟨rfl, rfl, rfl⟩

/-- A grant recorded is 0, for a zone that is not committed or outside production, or it is the verdict
on a zone served. -/
theorem State.grant_cases {s : State} {z : ZoneId} {e : ZoneSettlement}
    (h : s.arbitrationPass.entries[z] = some e) :
    (e.grant = 0 ∧
        (s.line.mode.production = true → ¬ s.zones[z].committed s.clock.count = true)) ∨
      s.exclusion z = none ∧ s.line.mode.production = true ∧
        ∃ k, k < s.served.length ∧ s.served[k]? = some z ∧ e.grant = (s.verdictAt k z).grant := by
  by_cases hproduction : s.line.mode.production = true
  · rw [State.arbitrationPass_of_production hproduction] at h
    by_cases hexpected : s.feeder.expected[z] = true
    · obtain ⟨why, hexclusion, hentry⟩ | ⟨k, hk, hz, hentry⟩ := s.finalEntry_cases hexpected
      · obtain rfl := Option.some.inj (hentry.symm.trans h)
        refine .inl ⟨rfl, fun _ hcommits => ?_⟩
        cases hexclusion.symm.trans (State.not_excluded_of_committed hcommits)
      · obtain rfl := Option.some.inj (hentry.symm.trans h)
        exact .inr ⟨(State.served_spec hz).2, hproduction, k, hk, hz, rfl⟩
    · cases (s.finalEntry_unexpected (Bool.eq_false_iff.mpr hexpected)).symm.trans h
  · rw [State.arbitrationPass_of_idle (Bool.eq_false_iff.mpr hproduction),
      State.idlePass_entry] at h
    split at h
    · obtain rfl := Option.some.inj h
      exact .inl ⟨rfl, fun hp => absurd hp hproduction⟩
    · cases h

/-- A verdict's grant is 0 or within the zone's limits, and a committed zone's is its minimum at least. -/
theorem State.verdictAt_limits {s : State} {z : ZoneId} (k : Nat)
    (hrange : s.zones[z].map.minKW ≤ s.zones[z].map.maxKW)
    (hdemand : s.feeder.demands[z].getD 0 ≤ s.zones[z].map.maxKW) :
    ((s.verdictAt k z).grant = 0 ∨ s.zones[z].map.minKW ≤ (s.verdictAt k z).grant ∧
        (s.verdictAt k z).grant ≤ s.zones[z].map.maxKW) ∧
      (s.zones[z].committed s.clock.count = true →
        s.zones[z].map.minKW ≤ (s.verdictAt k z).grant) := by
  have hasked := s.servedEntry_demand z
  by_cases hcommits : s.zones[z].committed s.clock.count = true
  · obtain ⟨hleast, -⟩ := State.servedEntry_committed hcommits
    have hgrant : (s.verdictAt k z).grant = (s.servedEntry z).committed +
        min ((s.servedEntry z).demand - (s.servedEntry z).committed) (s.passAt k).budget := by
      rw [State.verdictAt, State.verdict_committed hcommits]
    omega
  · obtain ⟨hzero, -⟩ := State.servedEntry_uncommitted hcommits
    refine ⟨?_, fun h => absurd h hcommits⟩
    obtain ⟨hgrant, -⟩ | ⟨hgrant, -, -, hleast, -⟩ :=
      State.verdict_uncommitted hcommits (v := s.verdictAt k z) rfl
    · exact .inl hgrant
    · exact .inr ⟨hleast, by omega⟩

/-- Settles O39. -/
theorem grantsStayWithinLimits : Obligations.GrantsStayWithinLimits := by
  unfold Obligations.GrantsStayWithinLimits
  intro s record z e hrange hdemand hrecord hentry met
  obtain ⟨-, -, hmin, hminmax, -, -⟩ := hrange
  rw [(State.recorded_entry hrecord).1] at hentry
  have hcases := State.grant_cases hentry
  have hmet : met ↔ s.zones[z].metMinOn s.clock.count = true := (ZoneChannel.metMinOn_iff _ _).symm
  have hexcluded : s.exclusion z ≠ none → e.grant = 0 := fun hex =>
    hcases.elim (fun h => h.1) fun h => absurd h.1 hex
  have hexclusion := State.exclusion_eq s z
  refine ⟨?_, fun hstate => hexcluded ?_, fun hon hband => hexcluded ?_,
    fun hpointed hoverdue hstop => hexcluded ?_, fun hproducing hearly => ?_⟩
  · obtain ⟨hnothing, -⟩ | ⟨-, -, k, -, -, hgrant⟩ := hcases
    · exact .inl hnothing
    · rw [hgrant]
      exact (State.verdictAt_limits k hminmax (by omega)).1
  · rw [hexclusion, if_pos hstate]
    nofun
  · rw [hexclusion]
    split
    · nofun
    · rw [if_pos ⟨hmet.mp hon, hband⟩]
      nofun
  · rw [hexclusion]
    split_ifs with _ _ hforced
    · nofun
    · nofun
    · nofun
    · exact absurd ⟨hpointed, hoverdue, hstop.imp_right hmet.mp⟩ hforced
  · have hcommits : s.zones[z].committed s.clock.count = true := by
      refine (ZoneChannel.committed_iff _ _).mpr ⟨hearly.imp_right And.left, ?_⟩
      rw [← Bool.not_eq_true, ← hmet]
      rintro ⟨hstate, since, hsince, hlong⟩
      rcases hearly with hstarting | ⟨-, hshort⟩
      · cases hstate.symm.trans hstarting
      · exact absurd (hshort since hsince) (Nat.not_lt.mpr hlong)
    obtain ⟨-, hidle⟩ | ⟨-, -, k, -, -, hgrant⟩ := hcases
    · exact absurd hcommits (hidle ((LineMode.production_iff _).mpr hproducing))
    · rw [hgrant]
      exact (State.verdictAt_limits k hminmax (by omega)).2 hcommits

/-! ## The budget (R116) -/

theorem sum_finRange_set {α : Type} (v : Vector α 12) (f : α → Nat) (z : Fin 12) (a : α) :
    ((List.finRange 12).map fun y => f (v.set z a)[y]).sum + f v[z] =
      ((List.finRange 12).map fun y => f v[y]).sum + f a := by
  rw [← Fin.sum_univ_def, ← Fin.sum_univ_def,
    ← Finset.add_sum_erase Finset.univ _ (Finset.mem_univ z),
    ← Finset.add_sum_erase Finset.univ (fun y => f v[y]) (Finset.mem_univ z), vector_set_same]
  have hrest : ∑ y ∈ Finset.univ.erase z, f (v.set z a)[y] = ∑ y ∈ Finset.univ.erase z, f v[y] :=
    Finset.sum_congr rfl fun y hy => by rw [vector_set_other _ (Finset.ne_of_mem_erase hy)]
  rw [hrest]
  omega

/-- The grants of a pass, summed over the zones. -/
def Pass.granted (p : Pass) : Nat :=
  ((List.finRange 12).map fun z => (p.entries[z].map fun e => e.grant).getD 0).sum

/-- A zone's committed amount at the opening of the pass. -/
def State.setAside (s : State) (z : ZoneId) : Nat :=
  ((s.openingEntry z).map fun e => e.committed).getD 0

theorem State.openPass_budget (s : State) :
    s.openPass.budget = s.feeder.feederLimit - ((List.finRange 12).map s.setAside).sum := by
  have hentries : (Vector.ofFn s.openingEntry).toList = (List.finRange 12).map s.openingEntry := by
    refine List.ext_getElem (by simp) fun k hk hk' => ?_
    simp
  rw [State.openPass, hentries, List.map_map]
  rfl

theorem State.servedEntry_grant (s : State) (z : ZoneId) :
    (s.servedEntry z).grant = (s.servedEntry z).committed := by
  by_cases hcommits : s.zones[z].committed s.clock.count = true
  · exact (State.servedEntry_committed hcommits).2.1
  · obtain ⟨hzero, hgrant, -⟩ := State.servedEntry_uncommitted hcommits
    rw [hzero, hgrant]

/-- At the opening a zone is granted what is set aside for it: its minimum, if it is expected, not
excluded and committed (R106). -/
theorem State.setAside_eq (s : State) (z : ZoneId) :
    ((s.openingEntry z).map fun e => e.grant).getD 0 = s.setAside z ∧
      s.setAside z =
        if s.feeder.expected[z] = true ∧ s.exclusion z = none ∧
            s.zones[z].committed s.clock.count = true then s.zones[z].map.minKW else 0 := by
  unfold State.setAside
  by_cases hexpected : s.feeder.expected[z] = true
  · cases hexclusion : s.exclusion z with
    | some why =>
      rw [State.openingEntry_excluded hexpected hexclusion, if_neg (by rintro ⟨-, h, -⟩; cases h)]
      exact ⟨rfl, rfl⟩
    | none =>
      rw [State.openingEntry_served hexpected hexclusion, Option.map_some, Option.map_some]
      refine ⟨s.servedEntry_grant z, ?_⟩
      by_cases hcommits : s.zones[z].committed s.clock.count = true
      · rw [if_pos ⟨hexpected, rfl, hcommits⟩]
        exact (State.servedEntry_committed hcommits).1
      · rw [if_neg fun h => hcommits h.2.2]
        exact (State.servedEntry_uncommitted hcommits).1
  · rw [State.openingEntry_unexpected (Bool.eq_false_iff.mpr hexpected),
      if_neg fun h => hexpected h.1]
    exact ⟨rfl, rfl⟩

theorem State.openPass_granted (s : State) :
    s.openPass.granted = ((List.finRange 12).map s.setAside).sum := by
  refine congrArg List.sum (List.map_congr_left fun z _ => ?_)
  have hentry : s.openPass.entries[z] = s.openingEntry z := by simp [State.openPass]
  rw [hentry, (s.setAside_eq z).1]

theorem State.passAt_granted {s : State}
    (h : ((List.finRange 12).map s.setAside).sum ≤ s.feeder.feederLimit) :
    ∀ k, (s.passAt k).granted + (s.passAt k).budget = s.feeder.feederLimit
  | 0 => by
    have hopen : s.passAt 0 = s.openPass := rfl
    rw [hopen, State.openPass_granted, State.openPass_budget]
    omega
  | k + 1 => by
    have ih := State.passAt_granted h k
    cases hserved : s.served[k]? with
    | none => rwa [State.passAt_of_length_le (List.getElem?_eq_none_iff.mp hserved)]
    | some z =>
      obtain ⟨hexpected, hfree⟩ := State.served_spec hserved
      have hentry := (s.passAt_unserved k z (State.not_served_before hserved)).1
      rw [State.openingEntry_served hexpected hfree] at hentry
      obtain ⟨hfills, hwithin⟩ := s.verdictAt_fills k z
      have hset := sum_finRange_set (s.passAt k).entries
        (fun e : Option ZoneSettlement => (e.map fun e => e.grant).getD 0) z
        (some { s.servedEntry z with
          grant := (s.verdictAt k z).grant, disposition := (s.verdictAt k z).why })
      have hopened := s.servedEntry_grant z
      rw [hentry] at hset
      simp only [Option.map_some, Option.getD_some] at hset
      rw [State.passAt_succ hserved]
      simp only [Pass.granted, Pass.settle] at ih ⊢
      omega

theorem sum_map_le_filter {α : Type} {p : α → Bool} {f g : α → Nat} (hout : ∀ x, p x = false → f x = 0)
    (hin : ∀ x, f x ≤ g x) : ∀ l : List α, (l.map f).sum ≤ ((l.filter p).map g).sum
  | [] => le_rfl
  | x :: l => by
    have ih := sum_map_le_filter hout hin l
    have hx := hin x
    cases hp : p x with
    | true =>
      rw [List.filter_cons_of_pos hp, List.map_cons, List.map_cons, List.sum_cons, List.sum_cons]
      omega
    | false =>
      rw [List.filter_cons_of_neg (by simp [hp]), List.map_cons, List.sum_cons, hout x hp]
      omega

/-- Settles O37. -/
theorem grantsFillTheBudget : Obligations.GrantsFillTheBudget := by
  unfold Obligations.GrantsFillTheBudget
  intro s record hproduction hminimums hrecord
  obtain ⟨hzones, hbudget, hlimit⟩ := State.recorded_entry hrecord
  have hset : ((List.finRange 12).map s.setAside).sum ≤ s.feeder.feederLimit := by
    refine le_trans (sum_map_le_filter (fun z hz => ?_) (fun z => ?_) _) hminimums
    · rw [(s.setAside_eq z).2, if_neg fun h => by cases h.1.symm.trans hz]
    · rw [(s.setAside_eq z).2]
      split
      · exact le_rfl
      · exact Nat.zero_le _
  have hfilled := State.passAt_granted hset s.served.length
  rw [← State.arbitrationPass_of_production ((LineMode.production_iff _).mpr hproduction)] at hfilled
  rw [hzones, hbudget, hlimit]
  exact hfilled

/-! ## Starts (R109, R111, R112) -/

/-- A verdict that starts a zone: an OFF zone, an eligible start, and its minimum at least granted. -/
theorem State.verdictAt_starts {s : State} {k : Nat} {z : ZoneId}
    (h : (s.verdictAt k z).starts = true) :
    s.zones[z].state.running = false ∧ eligible s.clock.count (s.passAt k).history = true ∧
      s.zones[z].map.minKW ≤ (s.verdictAt k z).grant := by
  by_cases hcommits : s.zones[z].committed s.clock.count = true
  · rw [State.verdictAt, State.verdict_committed hcommits] at h
    cases h
  · obtain ⟨-, -, hquiet⟩ | ⟨-, -, -, hleast, ⟨-, hquiet⟩ | ⟨hoff, heligible, -⟩⟩ :=
      State.verdict_uncommitted hcommits (v := s.verdictAt k z) rfl
    · cases hquiet.symm.trans h
    · cases hquiet.symm.trans h
    · exact ⟨hoff, heligible, hleast⟩

theorem State.passAt_history_succ {s : State} {k : Nat} {z : ZoneId}
    (h : s.served[k]? = some z) : (s.passAt (k + 1)).history =
      if (s.verdictAt k z).starts then enterStart s.clock.count (s.passAt k).history
      else (s.passAt k).history := by
  rw [State.passAt_succ h]
  rfl

/-- A start just entered bars another one at the same count. -/
theorem not_eligible_enterStart (now : Nat) (history : List Nat) :
    ¬ eligible now (enterStart now history) = true := by
  rw [eligible_iff]
  rintro ⟨hspaced, -⟩
  have := hspaced now (by simp [enterStart])
  omega

/-- `s` has started a zone in its first `k` steps: the one at place `j`. -/
def State.StartedAt (s : State) (k j : Nat) : Prop :=
  ∃ z, j < k ∧ s.served[j]? = some z ∧ (s.verdictAt j z).starts = true

/-- Through the pass the start history stands, or one start has been entered in it. -/
theorem State.passAt_history (s : State) : ∀ k,
    ((s.passAt k).history = s.feeder.startHistory ∧ ∀ j, ¬ s.StartedAt k j) ∨
      (eligible s.clock.count s.feeder.startHistory = true ∧
        (s.passAt k).history = enterStart s.clock.count s.feeder.startHistory ∧
        (∃ j, s.StartedAt k j) ∧ ∀ i j, s.StartedAt k i → s.StartedAt k j → i = j)
  | 0 => .inl ⟨rfl, fun j ⟨_, hj, _⟩ => absurd hj (Nat.not_lt_zero j)⟩
  | k + 1 => by
    have hearlier : ∀ j, s.StartedAt (k + 1) j → s.StartedAt k j ∨ j = k := by
      rintro j ⟨z, hj, hz, hstarts⟩
      rcases Nat.lt_succ_iff_lt_or_eq.mp hj with hj | rfl
      · exact .inl ⟨z, hj, hz, hstarts⟩
      · exact .inr rfl
    have hlater : ∀ j, s.StartedAt k j → s.StartedAt (k + 1) j := by
      rintro j ⟨z, hj, hz, hstarts⟩
      exact ⟨z, Nat.lt_succ_of_lt hj, hz, hstarts⟩
    by_cases hstart : s.StartedAt (k + 1) k
    · obtain ⟨z, -, hz, hstarts⟩ := id hstart
      have heligible := (State.verdictAt_starts hstarts).2.1
      have hentered := State.passAt_history_succ hz
      rw [if_pos hstarts] at hentered
      obtain ⟨hsame, hnone⟩ | ⟨-, hone, -⟩ := s.passAt_history k
      · rw [hsame] at heligible hentered
        have honly : ∀ j, s.StartedAt (k + 1) j → j = k := fun j hj =>
          (hearlier j hj).resolve_left (hnone j)
        exact .inr ⟨heligible, hentered, ⟨k, hstart⟩, fun i j hi hj =>
          (honly i hi).trans (honly j hj).symm⟩
      · rw [hone] at heligible
        exact absurd heligible (not_eligible_enterStart _ _)
    · have hkept : (s.passAt (k + 1)).history = (s.passAt k).history := by
        cases hserved : s.served[k]? with
        | none => rw [State.passAt_of_length_le (List.getElem?_eq_none_iff.mp hserved)]
        | some z =>
          rw [State.passAt_history_succ hserved, if_neg]
          exact fun hstarts => hstart ⟨z, Nat.lt_succ_self k, hserved, hstarts⟩
      have hbefore : ∀ j, s.StartedAt (k + 1) j → s.StartedAt k j := fun j hj =>
        (hearlier j hj).resolve_right fun heq => hstart (heq ▸ hj)
      rw [hkept]
      exact (s.passAt_history k).imp (fun h => ⟨h.1, fun j hj => h.2 j (hbefore j hj)⟩)
        fun h => ⟨h.1, h.2.1, h.2.2.1.imp hlater, fun i j hi hj =>
          h.2.2.2 i j (hbefore i hi) (hbefore j hj)⟩

/-- An OFF zone is granted more than nothing exactly when the pass started it. -/
theorem State.off_granted_iff {s : State} (hproduction : s.line.mode.production = true) (z : ZoneId)
    (hrange : 5 ≤ s.zones[z].map.minKW) :
    (s.zones[z].state = .off ∧ ∃ e, s.arbitrationPass.entries[z] = some e ∧ 0 < e.grant) ↔
      ∃ k, k < s.served.length ∧ s.served[k]? = some z ∧ (s.verdictAt k z).starts = true := by
  constructor
  · rintro ⟨hoff, e, hentry, hgranted⟩
    have hidle : ¬ s.zones[z].committed s.clock.count = true := by
      rw [ZoneChannel.committed_iff, hoff]
      rintro ⟨h | h, -⟩ <;> cases h
    obtain ⟨hnothing, -⟩ | ⟨-, -, k, hk, hz, hgrant⟩ := State.grant_cases hentry
    · omega
    · refine ⟨k, hk, hz, ?_⟩
      obtain ⟨hnothing, -⟩ | ⟨-, -, -, -, ⟨hrunning, -⟩ | ⟨-, -, hstarts⟩⟩ :=
        State.verdict_uncommitted hidle (v := s.verdictAt k z) rfl
      · omega
      · rw [hoff] at hrunning
        cases hrunning
      · exact hstarts
  · rintro ⟨k, hk, hz, hstarts⟩
    obtain ⟨hquiet, -, hleast⟩ := State.verdictAt_starts hstarts
    have hoff : s.zones[z].state = .off := by
      refine (State.state_of_not_excluded (State.served_spec hz).2).resolve_right fun hrunning => ?_
      cases hquiet.symm.trans ((ZoneState.running_iff _).mpr hrunning)
    have hkept := (State.passAt_kept hz _ hk).1
    rw [← State.arbitrationPass_of_production hproduction] at hkept
    exact ⟨hoff, _, hkept, Nat.lt_of_lt_of_le (by omega) hleast⟩

/-- Settles O38. -/
theorem oneEligibleStartPerRound : Obligations.OneEligibleStartPerRound := by
  unfold Obligations.OneEligibleStartPerRound
  intro s hproducing hranges now t starts
  have hproduction := (LineMode.production_iff _).mpr hproducing
  have hhistory : t.feeder.startHistory = (s.passAt s.served.length).history := by
    rw [← State.arbitrationPass_of_production hproduction]
    rfl
  have hstarts : ∀ z, starts z ↔ ∃ k, s.StartedAt s.served.length k ∧ s.served[k]? = some z := by
    intro z
    have hrange : 5 ≤ s.zones[z].map.minKW := (hranges z).2.2.1
    have hgranted : starts z ↔ s.zones[z].state = .off ∧
        ∃ e, s.arbitrationPass.entries[z] = some e ∧ 0 < e.grant := by
      refine and_congr_right fun _ => ⟨?_, ?_⟩
      · rintro ⟨record, hrecord, e, he, hgrant⟩
        exact ⟨e, (State.recorded_entry hrecord).1 ▸ he, hgrant⟩
      · rintro ⟨e, he, hgrant⟩
        exact ⟨_, rfl, e, he, hgrant⟩
    rw [hgranted, State.off_granted_iff hproduction z hrange]
    constructor
    · rintro ⟨k, hk, hz, hverdict⟩
      exact ⟨k, ⟨z, hk, hz, hverdict⟩, hz⟩
    · rintro ⟨k, ⟨y, hk, hy, hverdict⟩, hz⟩
      obtain rfl := Option.some.inj (hy.symm.trans hz)
      exact ⟨k, hk, hz, hverdict⟩
  rw [hhistory]
  obtain ⟨hsame, hnone⟩ | ⟨heligible, hentered, hsome, honly⟩ := s.passAt_history s.served.length
  · have hnever : ∀ z, ¬ starts z := fun z hz => by
      obtain ⟨k, hk, -⟩ := (hstarts z).mp hz
      exact hnone k hk
    exact ⟨fun y z hy => absurd hy (hnever y), fun z hz => absurd hz (hnever z), fun _ => hsame⟩
  · refine ⟨fun y z hy hz => ?_, fun z _ => ?_, fun hnever => ?_⟩
    · obtain ⟨i, hi, hy⟩ := (hstarts y).mp hy
      obtain ⟨j, hj, hz⟩ := (hstarts z).mp hz
      obtain rfl := honly i j hi hj
      exact Option.some.inj (hy.symm.trans hz)
    · obtain ⟨hspaced, hfew⟩ := (eligible_iff _ _).mp heligible
      rw [hentered, enterStart, List.drop_one]
      exact ⟨hspaced, hfew, rfl⟩
    · obtain ⟨j, z, hj, hz, hverdict⟩ := hsome
      exact absurd ((hstarts z).mpr ⟨j, ⟨z, hj, hz, hverdict⟩, hz⟩) (hnever z)

/-! ## The arbitration, whole (R104 to R112, R114, R116) -/

theorem State.serviceOrder_eq (s : State) (l : Level) :
    s.serviceOrder l =
      ((List.range 12).map fun k => Fin.ofNat 12 (s.feeder.pointers[l].val + 1 + k)).filter fun z =>
        decide (s.feeder.expected[z] = true ∧ s.zones[z].map.level = l ∧ s.exclusion z = none) := by
  rw [State.serviceOrder, cyclicAfter, cyclicOrder_eq]
  refine List.filter_congr fun z _ => ?_
  rw [Bool.eq_iff_iff]
  simp only [Bool.and_eq_true, decide_eq_true_eq, Option.isNone_iff_eq_none, and_assoc]

/-- A share taken is granted. -/
theorem State.verdictAt_granted {s : State} {k : Nat} {z : ZoneId}
    (h : 0 < (s.verdictAt k z).taken) : (s.verdictAt k z).why = .granted := by
  by_cases hcommits : s.zones[z].committed s.clock.count = true
  · rw [State.verdictAt, State.verdict_committed hcommits] at h ⊢
    exact if_neg h.ne'
  · obtain ⟨-, hnothing, -⟩ | ⟨-, -, hwhy, -⟩ :=
      State.verdict_uncommitted hcommits (v := s.verdictAt k z) rfl
    · omega
    · exact hwhy

theorem State.newPointers_get (s : State) (p : Pass) (l : Level) :
    (s.newPointers p)[l] =
      ((s.serviceOrder l).find? fun z => decide (0 < p.shares[z])).getD s.feeder.pointers[l] := by
  simp [State.newPointers]

/-- A level's pointer moves only to a zone of the level that was granted a share. -/
theorem State.newPointers_granted (s : State) (l : Level) :
    (s.newPointers (s.passAt s.served.length))[l] = s.feeder.pointers[l] ∨
      ∃ z, (s.newPointers (s.passAt s.served.length))[l] = z ∧ s.zones[z].map.level = l ∧
        ((s.passAt s.served.length).entries[z].map fun e => e.disposition) = some .granted := by
  rw [State.newPointers_get]
  cases hfind : (s.serviceOrder l).find? fun z =>
      decide (0 < (s.passAt s.served.length).shares[z]) with
  | none => exact .inl rfl
  | some z =>
    obtain ⟨hexpected, hlevel, hfree⟩ := State.mem_serviceOrder.mp (List.mem_of_find?_eq_some hfind)
    have hfound := List.find?_some hfind
    have hshare : 0 < (s.passAt s.served.length).shares[z] := of_decide_eq_true hfound
    obtain ⟨k, hk, hz⟩ := State.exists_served hexpected hfree
    obtain ⟨hentry, htaken⟩ := State.passAt_kept hz _ hk
    rw [htaken] at hshare
    refine .inr ⟨z, rfl, hlevel, ?_⟩
    rw [hentry, Option.map_some, State.verdictAt_granted hshare]

/-- The arbiter's entry of each expected zone, and its demand. -/
theorem State.arbitrationPass_entry (s : State) (z : ZoneId) :
    (s.arbitrationPass.entries[z] = none ↔ s.feeder.expected[z] = false) ∧
      ∀ e, s.arbitrationPass.entries[z] = some e → e.demand = s.feeder.demands[z].getD 0 := by
  by_cases hproduction : s.line.mode.production = true
  · rw [State.arbitrationPass_of_production hproduction]
    by_cases hexpected : s.feeder.expected[z] = true
    · obtain ⟨why, -, hentry⟩ | ⟨k, -, -, hentry⟩ := s.finalEntry_cases hexpected <;>
        rw [hentry, hexpected]
      · exact ⟨⟨nofun, nofun⟩, fun e he => by cases he; rfl⟩
      · exact ⟨⟨nofun, nofun⟩, fun e he => by cases he; exact s.servedEntry_demand z⟩
    · have hunexpected := Bool.eq_false_iff.mpr hexpected
      rw [s.finalEntry_unexpected hunexpected]
      exact ⟨⟨fun _ => hunexpected, fun _ => rfl⟩, nofun⟩
  · rw [State.arbitrationPass_of_idle (Bool.eq_false_iff.mpr hproduction), State.idlePass_entry]
    split <;> rename_i hexpected
    · rw [hexpected]
      exact ⟨⟨nofun, nofun⟩, fun e he => by cases he; rfl⟩
    · exact ⟨⟨fun _ => Bool.eq_false_iff.mpr hexpected, fun _ => rfl⟩, nofun⟩

/-- What the step of a zone served leaves of the pass, and of the zone's entry to the end. -/
theorem State.served_step {s : State} {k : Nat} {z : ZoneId} (h : s.served[k]? = some z) :
    (s.passAt s.served.length).entries[z] =
        some ⟨s.feeder.demands[z].getD 0, (s.servedEntry z).committed, (s.verdictAt k z).grant,
          (s.verdictAt k z).why⟩ ∧
      (s.passAt s.served.length).shares[z] = (s.verdictAt k z).taken ∧
      (s.passAt (k + 1)).budget = (s.passAt k).budget - (s.verdictAt k z).taken ∧
      (s.passAt (k + 1)).history = (if (s.verdictAt k z).starts then
        enterStart s.clock.count (s.passAt k).history else (s.passAt k).history) ∧
      (s.passAt (k + 1)).deferred = (s.passAt k).deferred + (s.verdictAt k z).defers.toNat := by
  obtain ⟨hentry, hshare⟩ := State.passAt_kept h _ (List.getElem?_eq_some_iff.mp h).1
  rw [← s.servedEntry_demand z, State.passAt_succ h]
  exact ⟨hentry, hshare, rfl, rfl, rfl⟩

/-- Settles O36. -/
theorem arbitrationSettlesTheRound : Obligations.ArbitrationSettlesTheRound := by
  unfold Obligations.ArbitrationSettlesTheRound
  intro s
  refine ⟨⟨s.feeder.collectionTime, s.clock.count, s.line.mode, s.feeder.feederLimit,
    s.arbitrationPass.budget, s.arbitrationPass.entries⟩, ?_⟩
  intro t idle now demand running met excluded commits committed order served
  have hexcluded : ∀ z, excluded z = s.exclusion z := fun z => (s.exclusion_eq z).symm
  have hcommits : ∀ z, commits z ↔ s.zones[z].committed s.clock.count = true := fun z =>
    (ZoneChannel.committed_iff _ _).symm
  have hcommitted : ∀ z, committed z = s.setAside z := by
    intro z
    rw [(s.setAside_eq z).2]
    simp only [committed, hexcluded, hcommits]
  have horder : ∀ l, order l = s.serviceOrder l := by
    intro l
    rw [State.serviceOrder_eq]
    simp only [order, hexcluded]
  have hserved : served = s.served := by
    simp only [served, horder, State.served]
  have hidle : idle ↔ s.line.mode.production = false := (LineMode.production_eq_false_iff _).symm
  refine ⟨rfl, rfl, rfl, rfl, rfl, fun z => (s.arbitrationPass_entry z).1,
    fun z e he => (s.arbitrationPass_entry z).2 e he, ?_, fun hid => ?_, fun hproducing => ?_,
    fun hproducing => ?_, s.arbitrate_frame⟩
  · have hnotice : (Vector.ofFn fun z : ZoneId => s.arbitrationPass.entries[z].map (·.grant)) =
        s.arbitrationPass.entries.map fun e => e.map fun x => x.grant := by
      ext k hk
      simp
    rw [← hnotice]
    rfl
  · have hpass := State.arbitrationPass_of_idle (hidle.mp hid)
    have hpointers : t.feeder.pointers = s.feeder.pointers :=
      if_neg (Bool.eq_false_iff.mp (hidle.mp hid))
    have hhistory : t.feeder.startHistory = s.arbitrationPass.history := rfl
    have hdeferred : t.feeder.deferredStarts =
        satAdd Config.counterMax s.feeder.deferredStarts s.arbitrationPass.deferred := rfl
    rw [hpass] at hhistory hdeferred
    refine ⟨by rw [hpass]; rfl, hpointers, hhistory, hdeferred, fun z e he => ?_⟩
    replace he : s.arbitrationPass.entries[z] = some e := he
    rw [hpass, State.idlePass_entry] at he
    split at he
    · cases he
      exact ⟨rfl, rfl, rfl⟩
    · cases he
  · have hproduction : s.line.mode.production = true := by
      rwa [hidle, Bool.not_eq_false] at hproducing
    have hpass := State.arbitrationPass_of_production hproduction
    have hhistory : t.feeder.startHistory = s.arbitrationPass.history := rfl
    have hdeferred : t.feeder.deferredStarts =
        satAdd Config.counterMax s.feeder.deferredStarts s.arbitrationPass.deferred := rfl
    have hpointers : t.feeder.pointers = s.newPointers s.arbitrationPass := if_pos hproduction
    rw [hpass] at hhistory hdeferred hpointers
    rw [hserved, hpass]
    refine ⟨fun k => (s.passAt k).budget, fun k => (s.passAt k).deferred,
      fun k => (s.passAt k).history, fun z => (s.passAt s.served.length).shares[z],
      ?_, rfl, rfl, fun z why hexpected hexclusion => ?_, fun k z hz => ?_, rfl, hhistory,
      hdeferred, fun l => ?_⟩
    · have hall : (List.finRange 12).map committed = (List.finRange 12).map s.setAside :=
        List.map_congr_left fun z _ => hcommitted z
      rw [hall]
      exact s.openPass_budget
    · rw [hexcluded] at hexclusion
      obtain ⟨why', hwhy, hentry⟩ | ⟨k, -, hz, -⟩ := s.finalEntry_cases hexpected
      · obtain rfl := Option.some.inj (hwhy.symm.trans hexclusion)
        exact hentry
      · cases hexclusion.symm.trans (State.served_spec hz).2
    · intro want offered gets keeps mayStart
      obtain ⟨hexpected, hfree⟩ := State.served_spec hz
      obtain ⟨hentry, hshare, hbudget, hhistory, hdeferred⟩ := State.served_step hz
      have hset : (s.servedEntry z).committed = committed z := by
        rw [hcommitted, State.setAside, State.openingEntry_served hexpected hfree]
        rfl
      rw [hset] at hentry
      have hgets : ∀ {v}, s.verdictAt k z = v → gets v.grant v.taken v.why :=
        fun hv => hv ▸ ⟨hentry, hshare, hbudget⟩
      have hkeeps : ∀ {v}, s.verdictAt k z = v → v.starts = false → v.defers = false → keeps := by
        intro v hv hstarts hdefers
        rw [hv, hstarts] at hhistory
        rw [hv, hdefers] at hdeferred
        exact ⟨hhistory, hdeferred⟩
      have hverdict : s.verdictAt k z =
          if s.zones[z].committed s.clock.count then
            ⟨committed z + offered, offered, if offered = 0 then .committed else .granted, false,
              false⟩
          else if want = 0 then ⟨0, 0, .noDemand, false, false⟩
          else if offered < s.zones[z].map.minKW then ⟨0, 0, .belowMin, false, false⟩
          else if s.zones[z].state.running then ⟨offered, offered, .granted, false, false⟩
          else if eligible s.clock.count (s.passAt k).history then
            ⟨offered, offered, .granted, true, false⟩
          else ⟨0, 0, .deferred, false, true⟩ := by
        simp only [State.verdictAt, State.verdict, hset, s.servedEntry_demand z]
        rfl
      by_cases hcommit : commits z
      · rw [if_pos ((hcommits z).mp hcommit)] at hverdict
        rw [if_pos hcommit]
        exact ⟨hgets hverdict, hkeeps hverdict rfl rfl⟩
      rw [if_neg (mt (hcommits z).mpr hcommit)] at hverdict
      rw [if_neg hcommit]
      by_cases hwant : want = 0
      · rw [if_pos hwant] at hverdict ⊢
        exact ⟨hgets hverdict, hkeeps hverdict rfl rfl⟩
      rw [if_neg hwant] at hverdict ⊢
      by_cases hbelow : offered < s.zones[z].map.minKW
      · rw [if_pos hbelow] at hverdict ⊢
        exact ⟨hgets hverdict, hkeeps hverdict rfl rfl⟩
      rw [if_neg hbelow] at hverdict ⊢
      by_cases hrunning : running z
      · rw [if_pos ((ZoneState.running_iff _).mpr hrunning)] at hverdict
        rw [if_pos hrunning]
        exact ⟨hgets hverdict, hkeeps hverdict rfl rfl⟩
      rw [if_neg (mt (ZoneState.running_iff _).mp hrunning)] at hverdict
      rw [if_neg hrunning]
      by_cases hstart : mayStart = true
      · rw [if_pos (show eligible s.clock.count (s.passAt k).history = true from hstart)] at hverdict
        rw [if_pos hstart]
        rw [hverdict] at hhistory hdeferred
        refine ⟨hgets hverdict, hdeferred, ?_⟩
        rw [← List.drop_one]
        exact hhistory
      · rw [if_neg (show ¬ eligible s.clock.count (s.passAt k).history = true from hstart)]
          at hverdict
        rw [if_neg hstart]
        rw [hverdict] at hhistory hdeferred
        exact ⟨hgets hverdict, hhistory, hdeferred⟩
    · rw [hpointers, State.newPointers_get, horder]
  · have hproduction : s.line.mode.production = true := by
      rwa [hidle, Bool.not_eq_false] at hproducing
    have hpass := State.arbitrationPass_of_production hproduction
    have hpointers : t.feeder.pointers = s.newPointers s.arbitrationPass := if_pos hproduction
    intro l
    rw [hpass] at hpointers
    obtain hold | ⟨z, hz, hlevel, hgranted⟩ := s.newPointers_granted l
    · exact .inl (by rw [hpointers]; exact hold)
    · have hmoved : t.feeder.pointers[l] = z := by rw [hpointers]; exact hz
      simp only [hmoved, hpass]
      exact .inr ⟨hlevel, hgranted⟩

end Sys2Proof.Machine
end

section
/-! PROOFS. The round boundary and the demand reports (R94, R101 to R103). -/

namespace Sys2Proof.Machine

/-! ## A demand report (R103) -/

theorem Arbiter.complete_iff (a : Arbiter) :
    a.complete = true ↔ ∀ z : ZoneId, a.expected[z] = true → a.demands[z] ≠ none := by
  simp only [Arbiter.complete, List.all_eq_true, List.mem_finRange, true_implies, Bool.or_eq_true,
    Bool.not_eq_true', Option.isSome_iff_ne_none, ← Bool.not_eq_true, ← imp_iff_not_or]

theorem Arbiter.admits_iff (a : Arbiter) (m : DemandMessage) :
    a.admits m = true ↔ a.collection = .collecting ∧ m.boundaryTime = a.collectionTime ∧
      a.expected[m.zone] = true ∧ a.demands[m.zone] = none := by
  simp only [Arbiter.admits, Bool.and_eq_true, decide_eq_true_eq, Option.isNone_iff_eq_none,
    and_assoc]

/-- The collection with one more demand entered is complete when the others are. -/
theorem Arbiter.complete_entered (a : Arbiter) (y : ZoneId) (demand : Nat) :
    ({ a with demands := a.demands.set y (some demand) } : Arbiter).complete = true ↔
      ∀ z : ZoneId, a.expected[z] = true → z ≠ y → a.demands[z] ≠ none := by
  rw [Arbiter.complete_iff]
  refine forall_congr' fun z => imp_congr_right fun _ => ?_
  by_cases hz : z = y
  · subst hz
    rw [vector_set_same]
    simp
  · rw [vector_set_other _ hz]
    simp [hz]

/-- Settles O35. -/
theorem demandReportEntered : Obligations.DemandReportEntered := by
  unfold Obligations.DemandReportEntered
  intro s m before after hopen hdemands hbefore taken entered
  have hfirst : takeFirst (fun x : DemandMessage => x.zone == m.zone) (before ++ m :: after) =
      some (m, before ++ after) :=
    takeFirst_append (fun x hx => beq_false_of_ne (hbefore x hx)) (beq_self_eq_true _)
  have hexec : exec (.demandReport m.zone) s = .next (taken.enterDemand m) := by
    refine (State.event_open hopen fun s => s.takeDemand m.zone).trans (congrArg _ ?_)
    simp only [State.takeDemand, hdemands, hfirst, taken]
  have henter : taken.enterDemand m = if taken.feeder.admits m then
      if entered.feeder.complete then entered.arbitrate else entered else taken := rfl
  rw [hexec, henter]
  have hadmits := taken.feeder.admits_iff m
  have hcomplete := taken.feeder.complete_entered m.zone m.demand
  refine congrArg _ (if_congr hadmits (if_congr hcomplete rfl rfl) rfl)

/-! ## The boundary (R101, R94, R102) -/

theorem ZoneChannel.boundary_eq (c : ZoneChannel) :
    c.boundary = { c with
      qOn := 0, tuningAge := min 65535 (c.tuningAge + 1)
      grantInForce :=
        if c.state = .starting ∨ c.state = .on then c.nextGrant.getD c.grantInForce
        else c.grantInForce
      meteredGrant :=
        if c.state = .starting ∨ c.state = .on then c.nextGrant.getD c.meteredGrant
        else c.meteredGrant
      nextGrant := if c.state = .starting ∨ c.state = .on then none else c.nextGrant } := by
  unfold ZoneChannel.boundary ZoneChannel.adoptGrant
  cases hgrant : c.nextGrant with
  | none =>
    simp only [hgrant, Option.getD_none, ite_self]
    rfl
  | some g =>
    by_cases hrunning : c.state = .starting ∨ c.state = .on
    · have hruns := (ZoneState.running_iff _).mpr hrunning
      simp only [hruns, if_true, if_pos hrunning, Option.getD_some]
      rfl
    · have hrests := mt (ZoneState.running_iff _).mp hrunning
      simp only [hrests, if_neg hrunning, Bool.false_eq_true, if_false, hgrant]
      rfl

theorem filter_range_eq (first last : Nat) : ∀ n : Nat,
    ((List.range n).filter fun p => decide (first ≤ p ∧ p ≤ last)) =
      (List.range (min n (last + 1) - first)).map fun k => first + k
  | 0 => by simp
  | n + 1 => by
    rw [List.range_succ, List.filter_append, filter_range_eq first last n]
    by_cases h : first ≤ n ∧ n ≤ last
    · have hcount : min (n + 1) (last + 1) - first = (min n (last + 1) - first) + 1 := by omega
      have hlast : first + (min n (last + 1) - first) = n := by omega
      rw [hcount, List.range_succ, List.map_append, List.map_singleton, hlast]
      simp only [List.filter_cons, decide_eq_true h, if_true, List.filter_nil]
    · have hcount : min (n + 1) (last + 1) - first = min n (last + 1) - first := by omega
      rw [hcount, List.filter_cons_of_neg (by simpa using h), List.filter_nil, List.append_nil]

theorem positionsFrom_eq {first last : Nat} (h : last ≤ 39) :
    positionsFrom first last =
      (List.range 40).filter fun p => decide (first ≤ p ∧ p ≤ last) := by
  rw [filter_range_eq, Nat.min_eq_right (by omega)]
  rfl

theorem ZoneChannel.becomesOverdue_iff (window : Nat) (c : ZoneChannel) :
    c.becomesOverdue window = true ↔ c.map.enabled = true ∧ c.tuningAge < window ∧
      window ≤ min 65535 (c.tuningAge + 1) := by
  simp only [ZoneChannel.becomesOverdue, Bool.and_eq_true, decide_eq_true_eq, and_assoc]
  rfl

/-- The boundary up to its collection, which is open: every block's part. -/
def State.boundaryTaken (s : State) : State :=
  { s with
    zones := Vector.ofFn fun z => s.zones[z].boundary
    mail := { s.mail with reports := s.mail.reports ++ s.boundaryReports }
    sent := s.sent ++ (List.finRange 12).filterMap fun z =>
      (ZoneChannel.boundarySetpoint s.zones[z]).map fun c => (z, c)
    link := { s.link with
      flags :=
        if ∃ z : ZoneId, s.zones[z].map.enabled = true ∧ s.zones[z].tuningAge < s.tuner.window ∧
          s.tuner.window ≤ min 65535 (s.zones[z].tuningAge + 1) then s.link.flags ||| 128
        else s.link.flags }
    row := { s.row with cadenceCount := s.row.cadenceCount.map fun n => min 3000 (n + 1) }
    clock := { s.clock with lastBoundary := s.clock.count }
    feeder := { s.feeder with
      roundStart := s.clock.count
      unsettledRounds :=
        if s.feeder.collection = .collecting then min 65535 (s.feeder.unsettledRounds + 1)
        else s.feeder.unsettledRounds
      collection := .collecting
      collectionTime := s.clock.count
      expected := Vector.ofFn fun z => s.zones[z].map.enabled
      demands := Vector.replicate 12 none } }

theorem ZoneChannel.boundary_map (c : ZoneChannel) : c.boundary.map = c.map := by
  rw [ZoneChannel.boundary_eq]

theorem State.closeMeters_eq (s : State) :
    s.closeMeters = { s with
      zones := Vector.ofFn fun z => s.zones[z].boundary
      mail := { s.mail with reports := s.mail.reports ++ s.boundaryReports }
      sent := s.sent ++ (List.finRange 12).filterMap fun z =>
        (ZoneChannel.boundarySetpoint s.zones[z]).map fun c => (z, c)
      link := { s.link with
        flags :=
          if ∃ z : ZoneId, s.zones[z].map.enabled = true ∧ s.zones[z].tuningAge < s.tuner.window ∧
            s.tuner.window ≤ min 65535 (s.zones[z].tuningAge + 1) then s.link.flags ||| 128
          else s.link.flags } } := by
  have hany : (s.zones.toList.any (ZoneChannel.becomesOverdue s.tuner.window)) = true ↔
      ∃ z : ZoneId, s.zones[z].map.enabled = true ∧ s.zones[z].tuningAge < s.tuner.window ∧
        s.tuner.window ≤ min 65535 (s.zones[z].tuningAge + 1) := by
    simp only [zones_toList, List.any_eq_true, List.mem_map, List.mem_finRange, true_and,
      exists_exists_eq_and, ZoneChannel.becomesOverdue_iff]
  unfold State.closeMeters State.raiseIf
  by_cases hoverdue : ∃ z : ZoneId, s.zones[z].map.enabled = true ∧
      s.zones[z].tuningAge < s.tuner.window ∧
      s.tuner.window ≤ min 65535 (s.zones[z].tuningAge + 1)
  · rw [if_pos (hany.mpr hoverdue), if_pos hoverdue]
    rfl
  · rw [if_neg (mt hany.mp hoverdue), if_neg hoverdue]

theorem State.boundary_collecting (s : State) :
    s.closeMeters.countRound.markBoundary.collecting = s.boundaryTaken := by
  have hexpected : (Vector.ofFn fun z : ZoneId =>
      (Vector.ofFn fun z : ZoneId => s.zones[z].boundary)[z].map.enabled) =
        Vector.ofFn fun z : ZoneId => s.zones[z].map.enabled := by
    ext k hk
    simp [ZoneChannel.boundary_map]
  rw [State.closeMeters_eq, State.boundaryTaken, ← hexpected]
  rfl

/-- With a zone enabled the collection stays open; with none its arbitration is made (R102). -/
theorem State.takeBoundary_eq (s : State) {u : State}
    (hu : s.reach (s.feeder.roundStart + 200) = u) :
    s.takeBoundary =
      if ∃ z : ZoneId, u.zones[z].map.enabled = true then u.boundaryTaken
      else u.boundaryTaken.arbitrate := by
  have hcomplete : u.boundaryTaken.feeder.complete = true ↔
      ¬ ∃ z : ZoneId, u.zones[z].map.enabled = true := by
    rw [Arbiter.complete_iff]
    simp [State.boundaryTaken]
  have htaken : s.takeBoundary = if u.boundaryTaken.feeder.complete then u.boundaryTaken.arbitrate
      else u.boundaryTaken := by
    rw [← State.boundary_collecting, ← hu]
    rfl
  rw [htaken]
  by_cases henabled : ∃ z : ZoneId, u.zones[z].map.enabled = true
  · rw [if_pos henabled, if_neg fun h => hcomplete.mp h henabled]
  · rw [if_neg henabled, if_pos (hcomplete.mpr henabled)]

theorem ZoneChannel.boundarySetpoint_eq (c : ZoneChannel) (z : ZoneId) :
    (c.boundarySetpoint.map fun command => (z, command)) =
      match c.nextGrant with
      | some g =>
          if c.state = .on ∧ g ≠ c.grantInForce then some (z, InverterCommand.setpoint g) else none
      | none => none := by
  unfold ZoneChannel.boundarySetpoint
  cases c.nextGrant with
  | none => cases c.state <;> rfl
  | some g =>
    by_cases hon : c.state = .on
    · by_cases hsame : g = c.grantInForce <;> simp [hon, hsame]
    · simp [hon]

/-- Under distinct tags, from 1, a lookup is a search for the tag. -/
theorem State.lookup_eq_find {s : State} (h : TagsDistinct s) (tag : Nat) :
    s.lookup tag = s.pool.records.find? fun r => r.tag == tag := by
  unfold State.lookup
  split <;> rename_i hzero
  · subst hzero
    refine (List.find?_eq_none.mpr fun r hr => ?_).symm
    have hrange := (h.2 r hr).1
    simp
    omega
  · rfl

/-- An energy report: the metered joules, the band and the records in the zone's positions. -/
theorem State.energyReportOf_eq {s : State} {z : ZoneId} (hlast : s.zones[z].map.lastPos ≤ 39) :
    s.energyReportOf z =
      if s.zones[z].map.enabled then
        some ⟨.zone z (s.zones[z].meteredGrant * s.zones[z].qOn * 10 *
              s.zones[z].effUsed s.tuner.window / 1000)
            (if 0 < s.zones[z].qOn then s.zones[z].meteredBand else s.zones[z].band),
          s.clock.count, ((List.range 40).filter fun p => decide (s.zones[z].map.firstPos ≤ p ∧
            p ≤ s.zones[z].map.lastPos)).filterMap s.entryAt⟩
      else none := by
  simp only [State.energyReportOf, positionsFrom_eq hlast]
  rfl

/-- The unheated report lists what stands in no enabled zone's positions, and the exit's record. -/
theorem State.unheatedReportOf_eq (s : State) :
    s.unheatedReportOf = ⟨.unheated, s.clock.count,
      ((List.range 40).filter fun p => (List.finRange 12).all fun z =>
        !(s.zones[z].map.enabled && decide (s.zones[z].map.firstPos ≤ p ∧
          p ≤ s.zones[z].map.lastPos))).filterMap s.entryAt ++ s.exitEntry.toList⟩ := by
  simp only [State.unheatedReportOf, State.covered, List.not_any_eq_all_not, Bool.and_assoc,
    Bool.decide_and]

/-- The collection as the boundary opened it, read back from the state after its arbitration. -/
theorem State.boundaryTaken_reopened (u : State) {c : Prop} [Decidable c] {t : State}
    (ht : t = if c then u.boundaryTaken else u.boundaryTaken.arbitrate) :
    ({ t with
      feeder := { u.feeder with
        roundStart := u.clock.count, collection := .collecting, collectionTime := u.clock.count
        expected := t.feeder.expected, unsettledRounds := t.feeder.unsettledRounds
        demands := Vector.replicate 12 none }
      mail := { u.mail with reports := t.mail.reports } } : State) = u.boundaryTaken := by
  subst ht
  by_cases hc : c
  · rw [if_pos hc]
    rfl
  · rw [if_neg hc]
    rfl

/-- What the arbitration of an empty collection leaves of the feeder and of the mail. -/
theorem State.boundaryTaken_feeder (u : State) {c : Prop} [Decidable c] {t : State}
    (ht : t = if c then u.boundaryTaken else u.boundaryTaken.arbitrate) :
    t.feeder.roundStart = u.clock.count ∧ t.feeder.collectionTime = u.clock.count ∧
      t.feeder.expected = u.boundaryTaken.feeder.expected ∧
      t.feeder.unsettledRounds = u.boundaryTaken.feeder.unsettledRounds ∧
      t.mail.reports = u.mail.reports ++ u.boundaryReports := by
  subst ht
  by_cases hc : c
  · rw [if_pos hc]
    exact ⟨rfl, rfl, rfl, rfl, rfl⟩
  · rw [if_neg hc]
    exact ⟨rfl, rfl, rfl, rfl, rfl⟩

/-- With no zone enabled the arbitration gives no grant (R102). -/
theorem State.boundaryTaken_arbitrate_mail {u : State}
    (hnone : ∀ z : ZoneId, u.zones[z].map.enabled = false) :
    u.boundaryTaken.arbitrate.mail.grants = u.mail.grants ∧
      u.boundaryTaken.arbitrate.mail.notices = u.mail.notices ++
        [{ collectionTime := u.clock.count, grants := Vector.replicate 12 none }] := by
  have hentries : u.boundaryTaken.arbitrationPass.entries = Vector.replicate 12 none := by
    ext1 k hk
    have hexpected : u.boundaryTaken.feeder.expected[(⟨k, hk⟩ : ZoneId)] = false := by
      simpa [State.boundaryTaken] using hnone ⟨k, hk⟩
    exact ((u.boundaryTaken.arbitrationPass_entry ⟨k, hk⟩).1.mpr hexpected).trans
      (Vector.getElem_replicate ..).symm
  have hgrants : u.boundaryTaken.arbitrate.mail.grants =
      u.mail.grants ++ grantsOf u.boundaryTaken.arbitrationPass.entries := rfl
  have hnotices : u.boundaryTaken.arbitrate.mail.notices = u.mail.notices ++
      [⟨u.clock.count, Vector.ofFn fun z : ZoneId =>
        u.boundaryTaken.arbitrationPass.entries[z].map (·.grant)⟩] := rfl
  rw [hgrants, hnotices, hentries]
  exact ⟨List.append_nil _, rfl⟩

/-- Settles O34. -/
theorem boundaryOpensTheRound : Obligations.BoundaryOpensTheRound := by
  unfold Obligations.BoundaryOpensTheRound
  intro s hopen htags u now entryAt inZone effUsed zoneReport unheated
  have hexec : exec .roundBoundary s = .next s.takeBoundary := State.event_open hopen _
  rw [hexec, s.takeBoundary_eq rfl]
  change ∃ t : State, Host.Outcome.next (if ∃ z : ZoneId, u.zones[z].map.enabled = true then
    u.boundaryTaken else u.boundaryTaken.arbitrate) = .next t ∧ _
  have hpool : TagsDistinct u := htags
  have hentryAt : u.entryAt = entryAt := by
    funext p
    simp only [State.entryAt, State.lookup_eq_find hpool, entryAt]
  have hexitEntry : u.exitEntry =
      (u.exit.slot.bind fun tag => u.pool.records.find? fun r => r.tag == tag).map fun r =>
        { tag := r.tag, loadSeq := r.loadSeq, mass := r.mass, position := none } := by
    simp only [State.exitEntry, funext (State.lookup_eq_find hpool)]
  have hreports : (∀ z : ZoneId, u.zones[z].map.lastPos ≤ 39) →
      u.boundaryReports = (List.finRange 12).filterMap zoneReport ++ [unheated] := by
    intro hlast
    have hzones : u.energyReportOf = zoneReport := by
      funext z
      rw [State.energyReportOf_eq (hlast z), hentryAt]
      rfl
    rw [State.boundaryReports, hzones, State.unheatedReportOf_eq, hentryAt, hexitEntry]
  obtain ⟨t, ht⟩ : ∃ t : State, t = if ∃ z : ZoneId, u.zones[z].map.enabled = true then
    u.boundaryTaken else u.boundaryTaken.arbitrate := ⟨_, rfl⟩
  rw [← ht]
  obtain ⟨hround, htime, hexpected, hunsettled, hmail⟩ := u.boundaryTaken_feeder ht
  have hopened := u.boundaryTaken_reopened ht
  have hframe : UnchangedBut [.feeder, .mail] u.boundaryTaken t := by
    rw [ht]
    split
    · exact .refl _ _
    · exact State.arbitrate_frame _
  have hrest := unchangedBut_iff.mp hframe
  have htaken : UnchangedBut [.zones, .mail, .sent, .row, .clock, .feeder, .link] u
      u.boundaryTaken := by
    simp [unchangedBut_iff, State.boundaryTaken]
  simp only [List.mem_cons, reduceCtorEq, List.not_mem_nil, or_false, false_or] at hrest
  obtain ⟨-, hclock, -, -, hrow, hzones, -, -, -, -, hlink, -, -, -, hsent⟩ := hrest
  refine ⟨t, rfl, ?_, fun z _ => ?_, fun hlast => ?_, ?_, hrow, hclock, hround, hlink, htime,
    fun z => ?_, hunsettled, fun henabled => ?_, fun hdisabled => ?_,
    htaken.trans (hframe.mono (by simp))⟩
  · exact ht.trans (if_congr Iff.rfl hopened.symm (congrArg State.arbitrate hopened.symm))
  · have hzone : u.boundaryTaken.zones[z] = u.zones[z].boundary := by simp [State.boundaryTaken]
    rw [hzones, hzone, ZoneChannel.boundary_eq]
  · rw [hmail, hreports hlast, List.append_assoc]
  · rw [hsent]
    exact congrArg (fun setpoint : ZoneId → Option (ZoneId × InverterCommand) =>
        u.sent ++ (List.finRange 12).filterMap setpoint)
      (funext fun z => ZoneChannel.boundarySetpoint_eq u.zones[z] z)
  · rw [hexpected]
    simp [State.boundaryTaken]
  · have htook : t = u.boundaryTaken := ht.trans (if_pos henabled)
    rw [htook]
    exact ⟨rfl, rfl⟩
  · have hnone : ¬ ∃ z : ZoneId, u.zones[z].map.enabled = true :=
      fun ⟨z, hz⟩ => Bool.false_ne_true ((hdisabled z).symm.trans hz)
    have htook : t = u.boundaryTaken.arbitrate := ht.trans (if_neg hnone)
    rw [htook]
    exact ⟨rfl, State.boundaryTaken_arbitrate_mail hdisabled⟩

end Sys2Proof.Machine
end

section
/-! PROOFS. Power-on reset and the entry of a controller restart (R165 to R168). -/

namespace Sys2Proof.Machine

/-! ## The reset state (R165) -/

theorem State.powerOn_recipe (levels : Levels) (pending : List Instr) (k : RecipeId) :
    (State.powerOn levels pending).recipes[k] = Recipe.reset := by
  simp [State.powerOn]

theorem powerOn_recipesTracked (levels : Levels) (pending : List Instr) :
    RecipesTracked (State.powerOn levels pending) := by
  refine ⟨(powerOn_billets levels pending).1, fun k => ?_, fun k h => ?_⟩
  · rw [State.powerOn_recipe]
    rfl
  · rw [State.powerOn_recipe] at h
    cases h

theorem powerOn_rangesKept (levels : Levels) (pending : List Instr) :
    RangesKept (State.powerOn levels pending) := by
  refine ⟨nofun, fun k => ?_, fun z => ?_, powerOn_parameters levels pending⟩
  · rw [State.powerOn_recipe]
    decide
  · rw [powerOn_zone]
    decide

/-- Settles O60. -/
theorem resetStateIsLawful : Obligations.ResetStateIsLawful :=
  ⟨powerOn_billets _ _, powerOn_recipesTracked _ _, powerOn_mapKept _ _, powerOn_rangesKept _ _,
    powerOn_zonesFit _ _, StartsPaced.powerOn _ _⟩

/-! ## The entry of a restart (R168) -/

theorem endedResult_eq (x : TuneResult) :
    endedResult x =
      if x = .inProgress then .abandoned else if x = .waiting then .notRun else x := by
  cases x <;> rfl

theorem Tuner.restartEntry_eq (t : Tuner) :
    t.restartEntry = if t.allState = .running then { t with
        allState := .done
        regularZone := (t.allList.find? fun x => decide (x.2 = .inProgress)).map Prod.fst
        allList := t.allList.map fun x => (x.1,
          if x.2 = .inProgress then .abandoned else if x.2 = .waiting then .notRun else x.2) }
      else t := by
  simp only [Tuner.restartEntry, endedResult_eq]
  rfl

/-- With every channel OFF a stop-all changes nothing. -/
theorem State.stopAll_of_reset {s : State} (h : ∀ z : ZoneId, s.zones[z] = ZoneChannel.reset) :
    s.stopAll = s := by
  have hstops : ((List.finRange 12).filter fun z => s.zones[z].state.stoppable) = [] := by
    refine List.filter_eq_nil_iff.mpr fun z _ => ?_
    rw [h z]
    decide
  have htuning : ((List.finRange 12).filter fun z => s.zones[z].state = .tuning) = [] := by
    refine List.filter_eq_nil_iff.mpr fun z _ => ?_
    rw [h z]
    decide
  have hzones : (Vector.ofFn fun z : ZoneId => s.zones[z].stopAll s.clock.count) = s.zones := by
    ext1 k hk
    rw [Vector.getElem_ofFn, h ⟨k, hk⟩]
    exact (h ⟨k, hk⟩).symm
  rw [State.stopAll, hstops, htuning, hzones]
  simp

theorem State.powerOn_stopAll (levels : Levels) (pending : List Instr) (line : LineSequencer) :
    ({ State.powerOn levels pending with line := line } : State).stopAll =
      { State.powerOn levels pending with line := line } :=
  State.stopAll_of_reset (powerOn_zone levels pending)

/-- Settles O52. -/
theorem powerOnResetLeaves : Obligations.PowerOnResetLeaves := by
  unfold Obligations.PowerOnResetLeaves
  intro recipe zone leaves
  have hleaves : ∀ levels pending, leaves levels pending = State.powerOn levels pending :=
    fun _ _ => rfl
  refine ⟨fun s => rfl, fun levels s => ?_, rfl⟩
  simp only [hleaves, exec, execPowerOnReset, State.releasePowerOn]
  refine congrArg _ (if_congr Iff.rfl ?_ rfl)
  simp only [State.restartEntry, State.enterTripped, State.powerOn_stopAll]
  rfl

/-- Every output is deasserted while a hold lasts (R165, R167). -/
theorem State.outputs_of_held {s : State} (h : s.restart.hold.isSome = true) :
    s.attention = false ∧ s.pushPermit = false ∧ s.pressLoad = false ∧ s.chuteOpen = false := by
  simp [State.attention, State.pushPermit, State.pressLoad, State.chuteOpen, State.held, h]

/-- Settles O53. -/
theorem restartEntryTaken : Obligations.RestartEntryTaken := by
  unfold Obligations.RestartEntryTaken
  refine ⟨?_, fun s => ⟨fun hopen => ?_, fun hheld => ?_⟩⟩
  · intro s c h enters
    have hentry : ∀ (pins : Levels) (link : LineLink) (cause : RestartCause),
        enters cause (({ s with pins := pins, link := link } : State).restartEntry cause) := by
      intro pins link cause
      refine ⟨s.enterTripped_taken .restart, rfl, rfl, rfl, s.tuner.restartEntry_eq, rfl, ?_⟩
      obtain ⟨hattention, hpermit, hload, hchute⟩ := State.outputs_of_held
        (s := ({ s with pins := pins, link := link } : State).restartEntry cause) rfl
      refine ⟨hattention, hpermit, hload, hchute, ?_⟩
      exact .trans (by simp [unchangedBut_iff]) ((State.restartEntry_frame _ cause).mono (by simp))
    exact ⟨⟨_, State.event_open (s := { s with pins := { s.pins with ctrlReset := true } }) h.2
        (fun s => s.restartEntry .ctrlReset), hentry { s.pins with ctrlReset := true } s.link _,
        rfl, rfl⟩,
      _, State.transaction_taking h (fun s => s.restartEntry .request),
      hentry s.pins (s.settleFetch c).link _, rfl, rfl⟩
  · refine ⟨?_, ?_, ?_, ?_⟩
    · simp [State.pushPermit, State.held, hopen, and_assoc]
    · simp [State.pressLoad, State.held, hopen]
    · simp [State.chuteOpen, State.held, hopen]
    · rw [State.attention_of_open hopen, decide_eq_true_iff]
  · obtain ⟨hattention, hpermit, hload, hchute⟩ := State.outputs_of_held hheld
    exact ⟨hpermit, hload, hchute, hattention⟩

end Sys2Proof.Machine
end

section
/-! PROOFS. The release of a controller restart (R169 to R171). -/

namespace Sys2Proof.Machine

/-! ## The held reports, taken in the order of their arrival (R37, R169) -/

/-- The command that takes a report from its origin. -/
def Report.taking (report : Report) : Instr :=
  match report.source with
  | .zone z _ _ => .energyReport z
  | .unheated => .unheatedReport

/-- The state with other reports waiting. -/
def State.withReports (s : State) (reports : List Report) : State :=
  { s with mail := { s.mail with reports := reports } }

/-- What is done with a report does not read the reports that wait. -/
theorem State.absorb_withReports (s : State) (report : Report) (reports : List Report) :
    (s.withReports reports).absorb report = (s.absorb report).withReports reports := by
  unfold State.absorb
  cases report.source <;> rfl

/-- An origin's oldest report is taken when no report of an earlier boundary waits before it. -/
theorem State.takeReport_oldest {s : State} {origin : Option ZoneId} {report : Report}
    {before after : List Report} (hreports : s.mail.reports = before ++ report :: after)
    (hbefore : ∀ r ∈ before, r.boundaryTime = report.boundaryTime ∧ r.isFrom origin = false)
    (hfrom : report.isFrom origin = true) :
    s.takeReport origin = (s.absorb report).withReports (before ++ after) := by
  have hfirst : takeFirst (Report.isFrom origin) (before ++ report :: after) =
      some (report, before ++ after) := takeFirst_append (fun r hr => (hbefore r hr).2) hfrom
  rw [← State.absorb_withReports]
  cases before with
  | nil =>
    rw [List.nil_append] at hreports hfirst
    simp only [State.takeReport, hreports, hfirst, if_true, State.withReports]
  | cons oldest rest =>
    have hdue := (hbefore oldest List.mem_cons_self).1
    rw [List.cons_append] at hreports hfirst
    simp only [State.takeReport, hreports, hfirst, hdue, if_true, State.withReports]

/-- The oldest of all reports is taken by its origin's command. -/
theorem State.exec_taking {s : State} (hopen : s.restart.hold = none) {report : Report}
    {rest : List Report} (hreports : s.mail.reports = report :: rest) :
    exec report.taking s = .next ((s.absorb report).withReports rest) := by
  have htake : ∀ origin, report.isFrom origin = true →
      s.takeReport origin = (s.absorb report).withReports rest :=
    fun origin => State.takeReport_oldest (before := []) hreports nofun
  unfold Report.taking
  cases hsource : report.source with
  | zone z energy band =>
    exact (State.event_open hopen fun s => s.takeReport (some z)).trans
      (congrArg _ (htake _ (by simp [Report.isFrom, hsource])))
  | unheated =>
    exact (State.event_open hopen fun s => s.takeReport none).trans
      (congrArg _ (htake _ (by simp [Report.isFrom, hsource])))

theorem State.afterAll_taking : ∀ (reports : List Report) (s : State), s.restart.hold = none →
    s.mail.reports = reports →
      s.afterAll (reports.map Report.taking) = reports.foldl State.absorb (s.withReports [])
  | [], s, _, hreports => by
    rw [List.map_nil, State.afterAll_nil, List.foldl_nil, State.withReports, ← hreports]
  | report :: rest, s, hopen, hreports => by
    have hkept : ((s.absorb report).withReports rest).restart = s.restart :=
      State.absorb_frame s report .restart (by simp)
    have hrest := State.afterAll_taking rest ((s.absorb report).withReports rest)
      (by rw [hkept, hopen]) rfl
    rw [List.map_cons, State.afterAll_cons (State.exec_taking hopen hreports), hrest,
      List.foldl_cons, State.absorb_withReports]
    rfl

theorem State.takeHeldReports_eq {s : State} (hopen : s.restart.hold = none) :
    s.takeHeldReports = s.afterAll (s.mail.reports.map Report.taking) :=
  (State.afterAll_taking s.mail.reports s hopen rfl).symm

/-! ## Catch-up (R170) -/

theorem markStale_eq (missed : Nat) (r : BilletRecord) :
    markStale missed r =
      { r with flags := { r.flags with stale := r.flags.stale || decide (3000 < missed) } } := by
  unfold markStale
  by_cases h : 3000 < missed
  · refine (if_pos h).trans ?_
    rw [decide_eq_true h, Bool.or_true]
  · refine (if_neg h).trans ?_
    rw [decide_eq_false h, Bool.or_false]

theorem Place.inLine_eq_true_iff (p : Place) : p.inLine = true ↔ p ≠ .queued := by
  cases p <;> simp [Place.inLine]

theorem State.caughtUp_eq {s : State} {missed : Nat} (hmissed : s.missedRounds = missed)
    (r : BilletRecord) :
    s.caughtUp r = if r.place = .queued then r else
      (thermalStep s.recipes[r.recipe].fields s.line.tAmb s.line.mode none 0)^[min 3000 missed]
        { r with flags := { r.flags with stale := r.flags.stale || decide (3000 < missed) } } := by
  unfold State.caughtUp
  by_cases hqueued : r.place = .queued
  · rw [if_pos hqueued, if_neg]
    simp [Place.inLine_eq_true_iff, hqueued]
  · rw [if_neg hqueued, if_pos ((Place.inLine_eq_true_iff _).mpr hqueued), hmissed,
      repeatStep_eq_iterate, State.stepped_iterate, markStale_eq]
    rfl

theorem State.catchUp_eq {s : State} {missed : Nat} (hmissed : s.missedRounds = missed) :
    s.catchUp = { s with
      pool := { s.pool with
        records := s.pool.records.map fun r => if r.place = .queued then r else
          (thermalStep s.recipes[r.recipe].fields s.line.tAmb s.line.mode none
            0)^[min 3000 missed]
            { r with flags := { r.flags with
              stale := r.flags.stale || decide (3000 < missed) } } }
      mail := { s.mail with
        steps := s.mail.steps ++ s.pool.records.flatMap fun r =>
          if r.place = .exit then
            List.replicate (min 3000 missed) { tag := r.tag, loadSeq := r.loadSeq } else [] } } := by
  rw [State.catchUp, State.catchUpNotices, funext (State.caughtUp_eq hmissed), hmissed]
  rfl

theorem State.stepsRecords_eq {s : State} {missed : Nat} (hmissed : s.missedRounds = missed) :
    s.stepsRecords = if missed = 0 then 0
      else (s.pool.records.filter fun r => decide (r.place ≠ .queued)).length := by
  have hinLine : (fun r : BilletRecord => r.place.inLine) = fun r => decide (r.place ≠ .queued) := by
    funext r
    rw [Bool.eq_iff_iff, decide_eq_true_iff, Place.inLine_eq_true_iff]
  rw [State.stepsRecords, hmissed, hinLine]

/-! ## The transfer in flight (R147) -/

/-- A transfer in flight has a live record in the slot. -/
def State.TransferTracked (s : State) : Prop :=
  s.exit.state = .toPress ∨ s.exit.state = .rejecting →
    ∃ r ∈ s.pool.records, s.exit.slot = some r.tag

theorem Placed.keeps_transferTracked {s t : State} (h : Placed s t)
    (hstate : t.exit.state = s.exit.state) (hs : s.TransferTracked) : t.TransferTracked := by
  obtain ⟨⟨f, hf, hrecords⟩, -, -, -, hslot⟩ := h
  intro htransferring
  obtain ⟨r, hr, hat⟩ := hs (hstate ▸ htransferring)
  exact ⟨f r, hrecords ▸ List.mem_map_of_mem hr, by rw [hslot, hat, (hf r).1]⟩

/-- Under distinct tags the slot's record is the one a search finds. -/
theorem State.find_slot {s : State} (htags : TagsDistinct s) {r : BilletRecord}
    (hr : r ∈ s.pool.records) (hslot : s.exit.slot = some r.tag) :
    (s.pool.records.find? fun x => decide (s.exit.slot = some x.tag)) = some r := by
  have hsearch : (fun x : BilletRecord => decide (s.exit.slot = some x.tag)) =
      fun x => x.tag == r.tag := by
    funext x
    rw [hslot, Bool.eq_iff_iff, decide_eq_true_iff, Option.some_inj, beq_iff_eq]
    exact eq_comm
  rw [hsearch]
  exact (State.lookup_eq_find htags r.tag).symm.trans (State.lookup_of_mem htags hr)

/-! ## The blocks that touch no billet (R169) -/

/-- The part of a release before its billets, the attention flags being `flags` after it. -/
def State.openedWith (u : State) (h : RestartHold) (flags : BitVec 10) : State :=
  { u with
    zones := u.zones.map fun z => { z with
      timer := z.timer.map fun due => due + (u.clock.count - h.entryTime) }
    restart := { u.restart with hold := none }
    pins := { u.pins with ctrlReset := false }
    line := { u.line with faultLatch := u.line.faultLatch || u.pins.feederFault }
    feeder := { u.feeder with roundStart := u.clock.count }
    link := { u.link with flags := flags } }

theorem State.opened_eq (u : State) (h : RestartHold) :
    (u.endHold h).releaseBlocks = u.openedWith h
      (if ∃ z : ZoneId, u.zones[z].map.enabled = true ∧ u.tuner.window ≤ u.zones[z].tuningAge then
        u.link.flags ||| 256 ||| 128
      else u.link.flags ||| 256) := by
  have hzones : (Vector.ofFn fun z : ZoneId =>
      u.zones[z].resumeTimer (u.clock.count - h.entryTime)) =
        u.zones.map fun z => { z with
          timer := z.timer.map fun due => due + (u.clock.count - h.entryTime) } := by
    ext1 k hk
    simp [ZoneChannel.resumeTimer]
  have hoverdue : (!(u.endHold h).overdueZones.isEmpty) = true ↔
      ∃ z : ZoneId, u.zones[z].map.enabled = true ∧ u.tuner.window ≤ u.zones[z].tuningAge := by
    have hzone : ∀ z : ZoneId, (u.endHold h).zones[z] =
        u.zones[z].resumeTimer (u.clock.count - h.entryTime) := by simp [State.endHold]
    have hkept : (u.endHold h).overdueZones = u.overdueZones := by
      simp only [State.overdueZones_eq, hzone]
      rfl
    rw [hkept, State.overdueZones_eq]
    simp
  rw [State.openedWith, ← hzones]
  by_cases hlate : ∃ z : ZoneId, u.zones[z].map.enabled = true ∧
      u.tuner.window ≤ u.zones[z].tuningAge
  · rw [if_pos hlate]
    exact if_pos (hoverdue.mpr hlate)
  · rw [if_neg hlate]
    exact if_neg (mt hoverdue.mp hlate)

/-- Settles O54. -/
theorem restartReleaseCatchesUp : Obligations.RestartReleaseCatchesUp := by
  unfold Obligations.RestartReleaseCatchesUp
  refine ⟨fun s retireFirst hnone => ?_, ?_⟩
  · rw [exec_restartRelease, State.releaseHeld]
    obtain hnone | hnone := hnone <;> rw [hnone]
  intro s h retireFirst hheld htags htransfer u now missed overdue released reported caughtUp
    stepped retired before last
  have hopened : s.released h = (u.endHold h).releaseBlocks := rfl
  have hu : (∃ due, u = s.reach due) ∨ u = s := by
    by_cases hcause : h.cause = .request
    · exact .inl ⟨h.entryTime + 20, if_pos hcause⟩
    · exact .inr (if_neg hcause)
  have hreleased : s.released h = released := by
    rw [hopened, State.opened_eq]
    clear_value u
    obtain ⟨due, rfl⟩ | rfl := hu
    · have hoverdue : (∃ z : ZoneId, (s.reach due).zones[z].map.enabled = true ∧
          s.tuner.window ≤ (s.reach due).zones[z].tuningAge) ↔ overdue := by
        refine exists_congr fun z => ?_
        rw [State.reach, State.elapse_zone, ZoneChannel.accrue_eq]
      exact congrArg (State.openedWith _ h) (if_congr hoverdue rfl rfl)
    · rfl
  have hreported : ∀ x : State, x.restart.hold = none → reported x = x.takeHeldReports :=
    fun x hopen => (State.takeHeldReports_eq hopen).symm
  have hmissed : ∀ x : State, x.clock = released.clock → x.missedRounds = missed := by
    intro x hclock
    have hlast : u.clock.lastBoundary = s.clock.lastBoundary := by
      clear_value u
      obtain ⟨due, rfl⟩ | rfl := hu <;> rfl
    rw [State.missedRounds, hclock]
    exact congrArg (fun b => (now - b) / 200) hlast
  have hstepped : ∀ x : State, x.clock = released.clock → stepped x = x.catchUp :=
    fun x hclock => (State.catchUp_eq (hmissed x hclock)).symm
  have hretired : ∀ x : State, TagsDistinct x → x.TransferTracked →
      retired x = x.retireInFlight := by
    intro x hdistinct htracked
    unfold State.retireInFlight
    by_cases hflight : x.exit.state = .toPress ∨ x.exit.state = .rejecting
    · obtain ⟨r, hr, hslot⟩ := htracked hflight
      rw [if_pos ((StationState.transferring_iff _).mpr hflight),
        State.endTransfer_live _ hdistinct hr hslot]
      simp only [retired, if_pos hflight, State.find_slot hdistinct hr hslot]
      rfl
    · rw [if_neg (mt (StationState.transferring_iff _).mp hflight)]
      exact if_neg hflight
  have hpool : released.pool = s.pool := hreleased ▸ s.released_frame h .pool (by simp)
  have hexit : released.exit = s.exit := hreleased ▸ s.released_frame h .exit (by simp)
  have hdistinct : TagsDistinct released := by
    unfold TagsDistinct
    rwa [hpool]
  have htracked : released.TransferTracked := by
    unfold State.TransferTracked
    rwa [hpool, hexit]
  have hbefore : before =
      if retireFirst then released.retireInFlight.takeHeldReports
      else released.takeHeldReports := by
    refine if_congr Iff.rfl ?_ (hreported _ rfl)
    rw [hretired _ hdistinct htracked]
    refine hreported _ ?_
    rw [(released.retireInFlight_frame) .restart (by simp)]
  have hclock : before.clock = released.clock := by
    rw [hbefore]
    split
    · exact (State.takeHeldReports_frame _ .clock (by simp)).trans
        (State.retireInFlight_frame _ .clock (by simp))
    · exact State.takeHeldReports_frame _ .clock (by simp)
  have hlast : last = (released.releaseBillets retireFirst).1 := by
    have hcaught := hstepped before hclock
    cases retireFirst with
    | true =>
      refine hcaught.trans ?_
      rw [hbefore]
      rfl
    | false =>
      have hplaced : Placed released before.catchUp := by
        rw [hbefore]
        exact released.takeHeldReports_placed.trans (State.catchUp_placed _)
      have hstate : before.catchUp.exit.state = released.exit.state := by
        rw [hbefore]
        exact congrArg ExitStation.state ((State.catchUp_frame _ .exit (by simp)).trans
          (State.takeHeldReports_frame _ .exit (by simp)))
      have hended := hretired _ (hplaced.keeps_tags hdistinct)
        (hplaced.keeps_transferTracked hstate htracked)
      refine (congrArg retired hcaught).trans (hended.trans ?_)
      rw [hbefore]
      rfl
  have hcount : (released.releaseBillets retireFirst).2 =
      if missed = 0 then 0
      else (before.pool.records.filter fun r => decide (r.place ≠ .queued)).length := by
    rw [← State.stepsRecords_eq (hmissed before hclock), hbefore]
    rfl
  have hwindow : last.restartWindow = { last with
      exit := if last.exit.state = .measuring then
          { last.exit with readings := [], windowTimer := some (now + 1500) }
        else last.exit } := by
    have hnow : last.clock.count = now := by
      rw [hlast]
      exact congrArg Clock.count (State.releaseBillets_frame released retireFirst .clock (by simp))
    unfold State.restartWindow
    rw [hnow]
    by_cases hmeasuring : last.exit.state = .measuring
    · rw [if_pos hmeasuring, if_pos hmeasuring]
      rfl
    · rw [if_neg hmeasuring, if_neg hmeasuring]
  have hrestart : last.restart = { s.restart with hold := none } := by
    rw [hlast]
    exact State.releaseBillets_frame released retireFirst .restart (by simp)
  rw [exec_restartRelease, State.releaseHeld, hheld]
  refine congrArg _ ((State.release_eq s h retireFirst).trans ?_)
  rw [hreleased, ← hlast, hwindow, hcount, hrestart, State.restartRecord, hmissed released rfl]
  rfl

end Sys2Proof.Machine
end

section
/-! PROOFS. The division of a zone's energy, the reports' steps and a zone's demand (R37 to R58). -/

namespace Sys2Proof.Machine

/-! ## Shares (R41) -/

theorem addToLast_length (extra : Nat) : ∀ l : List Nat, (addToLast extra l).length = l.length
  | [] => rfl
  | [_] => rfl
  | _ :: y :: rest => congrArg Nat.succ (addToLast_length extra (y :: rest))

theorem addToLast_sum (extra : Nat) : ∀ {l : List Nat}, l ≠ [] →
    (addToLast extra l).sum = l.sum + extra
  | [], h => absurd rfl h
  | [x], _ => by simp [addToLast]
  | x :: y :: rest, _ => by
    rw [addToLast, List.sum_cons, List.sum_cons, addToLast_sum extra (List.cons_ne_nil y rest),
      Nat.add_assoc]

/-- Every entry but the last stands as it was. -/
theorem addToLast_getElem? (extra : Nat) : ∀ (l : List Nat) (k : Nat), k + 1 < l.length →
    (addToLast extra l)[k]? = l[k]?
  | [], _, h => absurd h (Nat.not_lt_zero _)
  | [_], _, h => absurd h (by simp)
  | _ :: _ :: _, 0, _ => rfl
  | _ :: y :: rest, k + 1, h =>
    addToLast_getElem? extra (y :: rest) k (Nat.lt_of_succ_lt_succ h)

/-- The truncated parts do not exceed the whole. -/
theorem sum_div_mul_le (energy total : Nat) (entries : List ReportEntry) :
    (entries.map fun e => energy * e.mass / total).sum * total ≤ energy * massSum entries := by
  induction entries with
  | nil => simp [massSum]
  | cons e rest ih =>
    have hpart := Nat.div_mul_le_self (energy * e.mass) total
    have hsum : massSum (e :: rest) = e.mass + massSum rest := rfl
    rw [List.map_cons, List.sum_cons, Nat.add_mul, hsum, Nat.mul_add]
    omega

theorem massSum_pos {entries : List ReportEntry} (h : entries ≠ [])
    (hmass : ∀ e ∈ entries, 500 ≤ e.mass) : 0 < massSum entries := by
  obtain ⟨e, he⟩ := List.exists_mem_of_ne_nil entries h
  have hone := List.single_le_sum (fun _ _ => Nat.zero_le _) _ (List.mem_map_of_mem he (f := (·.mass)))
  have hpos := hmass e he
  exact Nat.lt_of_lt_of_le (by omega) hone

theorem shares_length (energy : Nat) (entries : List ReportEntry) :
    (shares energy entries).length = entries.length := by
  simp only [shares, addToLast_length, baseShares, List.length_map]

theorem shares_sum (energy : Nat) {entries : List ReportEntry} (h : entries ≠ [])
    (hmass : ∀ e ∈ entries, 500 ≤ e.mass) : (shares energy entries).sum = energy := by
  have hbase : (baseShares energy entries).sum ≤ energy :=
    Nat.le_of_mul_le_mul_right (sum_div_mul_le energy (massSum entries) entries)
      (massSum_pos h hmass)
  have hne : baseShares energy entries ≠ [] := by simpa [baseShares] using h
  simp only [shares]
  rw [addToLast_sum _ hne, Nat.add_sub_cancel' hbase]

/-- Settles O18. -/
theorem sharesDivideTheEnergy : Obligations.SharesDivideTheEnergy := by
  unfold Obligations.SharesDivideTheEnergy
  intro energy entries hne hmass
  refine ⟨shares_length energy entries, shares_sum energy hne hmass, fun k hk => ?_⟩
  have hlength : (baseShares energy entries).length = entries.length := List.length_map _
  refine (addToLast_getElem? _ _ k (hlength ▸ hk)).trans ?_
  rw [baseShares, List.getElem?_map]
  rfl

/-! ## Taking a report (R37, R40 to R43, R50) -/

/-- A reference is to a live record. -/
theorem State.lookupRef_cases {s : State} (htags : TagsDistinct s) (tag loadSeq : Nat) :
    (∃ r ∈ s.pool.records, (r.tag = tag ∧ r.loadSeq = loadSeq) ∧
      s.lookupRef { tag := tag, loadSeq := loadSeq } = some r) ∨
    (¬ ∃ r ∈ s.pool.records, r.tag = tag ∧ r.loadSeq = loadSeq) ∧
      s.lookupRef { tag := tag, loadSeq := loadSeq } = none := by
  by_cases hlive : ∃ r ∈ s.pool.records, r.tag = tag ∧ r.loadSeq = loadSeq
  · obtain ⟨r, hr, rfl, rfl⟩ := hlive
    exact .inl ⟨r, hr, ⟨rfl, rfl⟩, State.lookupRef_of_mem htags hr⟩
  · refine .inr ⟨hlive, ?_⟩
    unfold State.lookupRef
    cases hlookup : s.lookup tag with
    | none => rfl
    | some r =>
      obtain ⟨hr, htag, -⟩ := State.lookup_some hlookup
      have hother : r.loadSeq ≠ loadSeq := fun hseq => hlive ⟨r, hr, htag, hseq⟩
      simp [hother]

theorem filterMap_eq_map_filter {α β : Type} {f : α → Option β} {p : α → Bool} {g : α → β}
    (h : ∀ a, f a = if p a then some (g a) else none) (l : List α) :
    l.filterMap f = (l.filter p).map g := by
  induction l with
  | nil => rfl
  | cons a rest ih =>
    rw [List.filterMap_cons, List.filter_cons, h a, ih]
    cases p a <;> rfl

theorem State.stepNotices_eq {s : State} (htags : TagsDistinct s) (entries : List ReportEntry) :
    s.stepNotices entries = (entries.filter fun e => decide (∃ r ∈ s.pool.records,
      (r.tag = e.tag ∧ r.loadSeq = e.loadSeq) ∧ r.place = .exit)).map fun e =>
        { tag := e.tag, loadSeq := e.loadSeq } := by
  refine filterMap_eq_map_filter (fun e => ?_) entries
  obtain ⟨r, hr, hlive, hfound⟩ | ⟨hnone, hfound⟩ := s.lookupRef_cases htags e.tag e.loadSeq
  · rw [hfound, Option.bind_some]
    refine if_congr ?_ rfl rfl
    rw [decide_eq_true_iff]
    refine ⟨fun hplace => ⟨r, hr, hlive, hplace⟩, fun ⟨x, hx, hlive', hplace⟩ => ?_⟩
    rwa [← htags.unique hr hx (hlive'.1.trans hlive.1.symm)]
  · rw [hfound, if_neg]
    · rfl
    · rw [decide_eq_true_iff]
      exact fun ⟨r, hr, hlive, _⟩ => hnone ⟨r, hr, hlive⟩

/-- What the shares of a report give a record. -/
theorem shareOf_eq (shared : List (ReportEntry × Nat)) (r : BilletRecord) :
    shareOf shared r = (shared.find? fun x =>
      decide (r.tag = x.1.tag ∧ r.loadSeq = x.1.loadSeq)).map Prod.snd := by
  have hsame : (fun x : ReportEntry × Nat => x.1.tag == r.tag && x.1.loadSeq == r.loadSeq) =
      fun x => decide (r.tag = x.1.tag ∧ r.loadSeq = x.1.loadSeq) := by
    funext x
    rw [Bool.eq_iff_iff, Bool.and_eq_true, beq_iff_eq, beq_iff_eq, decide_eq_true_iff]
    exact and_congr eq_comm eq_comm
  rw [← hsame]
  rfl

/-- The idle credit is what the steps do not take (R42). -/
theorem State.idleShare_eq {s : State} (htags : TagsDistinct s) (energy : Nat)
    {shared : List (ReportEntry × Nat)} (hne : shared ≠ []) :
    ((shared.filter fun x => decide (∃ r ∈ s.pool.records,
        r.tag = x.1.tag ∧ r.loadSeq = x.1.loadSeq)).map Prod.snd).sum + s.idleShare energy shared =
      (shared.map Prod.snd).sum := by
  have hskipped : (fun x : ReportEntry × Nat =>
      (s.lookupRef { tag := x.1.tag, loadSeq := x.1.loadSeq }).isNone) =
        fun x => !decide (∃ r ∈ s.pool.records, r.tag = x.1.tag ∧ r.loadSeq = x.1.loadSeq) := by
    funext x
    obtain ⟨r, hr, hlive, hfound⟩ | ⟨hnone, hfound⟩ := s.lookupRef_cases htags x.1.tag x.1.loadSeq
    · rw [hfound, decide_eq_true ⟨r, hr, hlive⟩]
      rfl
    · rw [hfound, decide_eq_false hnone]
      rfl
  have hidle : s.idleShare energy shared = ((shared.filter fun x => !decide (∃ r ∈ s.pool.records,
      r.tag = x.1.tag ∧ r.loadSeq = x.1.loadSeq)).map Prod.snd).sum := by
    rw [← hskipped]
    cases shared with
    | nil => exact absurd rfl hne
    | cons x rest => rfl
  rw [hidle, ← List.sum_append, ← List.map_append]
  exact ((List.filter_append_perm _ shared).map Prod.snd).sum_eq

/-- The state after a report's steps: the records as they stepped, and the notices of the entries. -/
def State.afterSteps (s : State) (records : List BilletRecord) (entries : List ReportEntry) :
    State :=
  { s with
    pool := { s.pool with records := records }
    mail := { s.mail with
      steps := s.mail.steps ++
        (entries.filter fun e => decide (∃ r ∈ s.pool.records,
          (r.tag = e.tag ∧ r.loadSeq = e.loadSeq) ∧ r.place = .exit)).map fun e =>
            { tag := e.tag, loadSeq := e.loadSeq } } }

theorem State.stepEntries_eq {s : State} (htags : TagsDistinct s) (band : Option Band)
    (shared : List (ReportEntry × Nat)) :
    s.stepEntries band shared = s.afterSteps
      (s.pool.records.map fun r =>
        match shared.find? fun x => decide (r.tag = x.1.tag ∧ r.loadSeq = x.1.loadSeq) with
        | none => r
        | some x => thermalStep s.recipes[r.recipe].fields s.line.tAmb s.line.mode band x.2 r)
      (shared.map Prod.fst) := by
  rw [State.afterSteps, ← State.stepNotices_eq htags]
  refine congrArg (fun records => { s with
    pool := { s.pool with records := records }
    mail := { s.mail with steps := s.mail.steps ++ s.stepNotices (shared.map Prod.fst) } })
    (List.map_congr_left fun r _ => ?_)
  rw [shareOf_eq]
  cases shared.find? fun x => decide (r.tag = x.1.tag ∧ r.loadSeq = x.1.loadSeq) <;> rfl

/-- Settles O19. -/
theorem energyReportStepsItsRecords : Obligations.EnergyReportStepsItsRecords := by
  unfold Obligations.EnergyReportStepsItsRecords
  intro s z energy due band entries before after hopen htags hreports hbefore hmass shared live
  have hexec : exec (.energyReport z) s = .next
      ((s.absorb ⟨.zone z energy band, due, entries⟩).withReports (before ++ after)) := by
    refine (State.event_open hopen fun s => s.takeReport (some z)).trans (congrArg _ ?_)
    refine State.takeReport_oldest hreports (fun r hr => ?_) (by simp [Report.isFrom])
    obtain ⟨hdue, hother⟩ := hbefore r hr
    refine ⟨hdue, ?_⟩
    cases hsource : r.source with
    | unheated => simp [Report.isFrom, hsource]
    | zone y e b =>
      have hne : y ≠ z := fun hyz => hother e b (by rw [hsource, hyz])
      simp [Report.isFrom, hsource, hne]
  have hlength : entries.length = (shares energy entries).length := (shares_length _ _).symm
  have hentries : shared.map Prod.fst = entries := List.map_fst_zip hlength.le
  have hshares : shared.map Prod.snd = shares energy entries := List.map_snd_zip hlength.ge
  refine ⟨_, s.idleShare energy shared, hexec, ?_, fun hempty => ?_, fun hne => ?_, ?_, ?_⟩
  · exact congrArg State.pool (State.stepEntries_eq htags (some band) shared)
  · subst hempty
    rfl
  · have hne' : shared ≠ [] := fun hnil => hne (by rw [← hentries, hnil, List.map_nil])
    refine (State.idleShare_eq htags energy hne').trans ?_
    rw [hshares, shares_sum energy hne hmass]
  · have hnotices := congrArg s.stepNotices hentries
    rw [← State.stepNotices_eq htags, ← hnotices]
    rfl
  · exact (State.absorb_frame s ⟨.zone z energy band, due, entries⟩).trans
      (by simp [unchangedBut_iff, State.withReports])

/-- The steps without energy. -/
theorem State.stepEntries_unheated {s : State} (htags : TagsDistinct s)
    (entries : List ReportEntry) :
    s.stepEntries none (entries.map fun e => (e, 0)) = s.afterSteps
      (s.pool.records.map fun r =>
        if ∃ e ∈ entries, r.tag = e.tag ∧ r.loadSeq = e.loadSeq then
          thermalStep s.recipes[r.recipe].fields s.line.tAmb s.line.mode none 0 r
        else r) entries := by
  have hentries : (entries.map fun e => (e, 0)).map Prod.fst = entries := by
    rw [List.map_map]
    exact List.map_id _
  rw [State.stepEntries_eq htags, hentries]
  refine congrArg (s.afterSteps · entries) (List.map_congr_left fun r _ => ?_)
  by_cases hlisted : ∃ e ∈ entries, r.tag = e.tag ∧ r.loadSeq = e.loadSeq
  · have hfound : ((entries.map fun e => (e, 0)).find? fun x =>
        decide (r.tag = x.1.tag ∧ r.loadSeq = x.1.loadSeq)).isSome = true := by
      simpa using hlisted
    obtain ⟨x, hx⟩ := Option.isSome_iff_exists.mp hfound
    obtain ⟨e, -, rfl⟩ := List.mem_map.mp (List.mem_of_find?_eq_some hx)
    rw [hx, if_pos hlisted]
  · have hnone : ((entries.map fun e => (e, 0)).find? fun x =>
        decide (r.tag = x.1.tag ∧ r.loadSeq = x.1.loadSeq)) = none := by
      refine List.find?_eq_none.mpr fun x hx => ?_
      obtain ⟨e, he, rfl⟩ := List.mem_map.mp hx
      rw [decide_eq_true_iff]
      exact fun hlive => hlisted ⟨e, he, hlive⟩
    rw [hnone, if_neg hlisted]

/-- Settles O20. -/
theorem unheatedReportStepsItsRecords : Obligations.UnheatedReportStepsItsRecords := by
  unfold Obligations.UnheatedReportStepsItsRecords
  intro s due entries before after hopen htags hreports hbefore live
  refine (State.event_open hopen fun s => s.takeReport none).trans (congrArg _ ?_)
  rw [State.takeReport_oldest hreports (fun r hr => ?_) (by simp [Report.isFrom])]
  · refine (congrArg (State.withReports · (before ++ after))
      (State.stepEntries_unheated htags entries)).trans ?_
    rfl
  · obtain ⟨hdue, hother⟩ := hbefore r hr
    refine ⟨hdue, ?_⟩
    cases hsource : r.source with
    | unheated => exact absurd hsource hother
    | zone y e b => simp [Report.isFrom, hsource]

/-! ## Demand (R51 to R56) -/

theorem ceilDiv_bounds {n d : Nat} (hn : 0 < n) (hd : 0 < d) :
    (ceilDiv n d - 1) * d < n ∧ n ≤ ceilDiv n d * d ∧ 0 < ceilDiv n d := by
  have hdiv := Nat.div_add_mod (n + d - 1) d
  have hmod := Nat.mod_lt (n + d - 1) hd
  have hpos : 0 < ceilDiv n d := Nat.div_pos (by omega) hd
  have hprod : ceilDiv n d * d = d * ((n + d - 1) / d) := Nat.mul_comm _ _
  rw [Nat.sub_mul, Nat.one_mul, hprod]
  exact ⟨by omega, by omega, hpos⟩

/-- A power above 0, fitted to the zone's limits (R56). -/
theorem powerFor_of_pos {needs eff : Nat} {m : ZoneMap} (hneeds : needs ≠ 0) (heff : 0 < eff)
    (hmax : 0 < m.maxKW) :
    powerFor needs eff m = max m.minKW (min m.maxKW (ceilDiv (needs * 5) eff)) := by
  obtain ⟨-, -, hpos⟩ := ceilDiv_bounds (n := needs * 5) (by omega) heff
  have hpower : 0 < min m.maxKW (ceilDiv (needs * 5) eff) := by omega
  simp only [powerFor, if_neg hneeds, decide_eq_true hpower, Bool.true_and, decide_eq_true_eq]
  split <;> omega

theorem sum_filterMap {α : Type} (f : α → Option Nat) (l : List α) :
    (l.filterMap f).sum = (l.map fun a => (f a).getD 0).sum := by
  induction l with
  | nil => rfl
  | cons a rest ih =>
    rw [List.filterMap_cons, List.map_cons, List.sum_cons, ← ih]
    cases f a <;> simp

/-- The target of a record in the modes that heat. -/
theorem targetOf_eq (mode : LineMode) (f : RecipeFields) (z : ZoneId) (offset : Int) :
    targetOf mode f z offset =
      if mode = .stopped ∨ mode = .service ∨ mode = .tripped then none
      else some (max 0 (min 16000
        (((if mode = .hold then f.holdTemp else f.zoneTarget[z] : Nat) : Int) + offset))) := by
  cases mode <;> rfl

/-- The need of what stands in a position, in the modes that heat (R53, R54). -/
def State.needAt (s : State) (z : ZoneId) (p : Nat) (r : BilletRecord) : Nat :=
  need (max 0 (min 16000 (((if s.line.mode = .hold then s.recipes[r.recipe].fields.holdTemp
      else s.recipes[r.recipe].fields.zoneTarget[z] : Nat) : Int) + r.targetOffset)))
    s.recipes[r.recipe] (roundsLeft s.line.mode s.zones[z].map.lastPos p s.cadence) r

theorem State.needsOf_sum {s : State} {z : ZoneId} (hlast : s.zones[z].map.lastPos ≤ 39)
    (henabled : s.zones[z].map.enabled = true)
    (hheats : ¬ (s.line.mode = .stopped ∨ s.line.mode = .service ∨ s.line.mode = .tripped)) :
    (s.needsOf z).sum = (((List.range 40).filter fun p =>
      decide (s.zones[z].map.firstPos ≤ p ∧ p ≤ s.zones[z].map.lastPos)).map fun p =>
        (((s.row.tagAt p).bind s.lookup).map (s.needAt z p)).getD 0).sum := by
  simp only [State.needsOf, henabled, if_true, sum_filterMap, positionsFrom_eq hlast]
  refine congrArg List.sum (List.map_congr_left fun p _ => congrArg (Option.getD · 0) ?_)
  cases s.row.tagAt p with
  | none => rfl
  | some tag =>
    rw [Option.bind_some, Option.bind_some]
    cases s.lookup tag with
    | none => rfl
    | some r =>
      rw [Option.bind_some, targetOf_eq, if_neg hheats]
      rfl

theorem State.needsOf_idle {s : State} {z : ZoneId}
    (hidle : s.line.mode = .stopped ∨ s.line.mode = .service ∨ s.line.mode = .tripped) :
    s.needsOf z = [] := by
  simp only [State.needsOf, targetOf_eq, if_pos hidle]
  split <;> simp

/-- Settles O21. -/
theorem demandFitsTheZone : Obligations.DemandFitsTheZone := by
  unfold Obligations.DemandFitsTheZone
  intro s z hrange heff least most eff idle cadence standsAt needAt needs
  obtain ⟨-, hlast, hleast, hlimits, hmost, -⟩ := hrange
  have heffUsed : s.zones[z].effUsed s.tuner.window = eff := rfl
  have heffPos : 0 < eff := by
    simp only [eff]
    split <;> omega
  have hneeds : (s.needsOf z).sum = needs := by
    by_cases hnone : idle ∨ s.zones[z].map.enabled = false
    · have hempty : s.needsOf z = [] := hnone.elim State.needsOf_idle State.needsOf_disabled
      rw [hempty]
      exact (if_pos hnone).symm
    · obtain ⟨hheats, henabled⟩ := not_or.mp hnone
      rw [State.needsOf_sum hlast (Bool.eq_true_of_not_eq_false henabled) hheats]
      refine Eq.trans ?_ (if_neg hnone).symm
      refine congrArg List.sum (List.map_congr_left fun p _ => ?_)
      have hstands : (s.row.tagAt p).bind s.lookup = standsAt p := rfl
      rw [hstands]
      cases standsAt p with
      | none => rfl
      | some r => rfl
  have hdemand : s.demandOf z = powerFor needs eff s.zones[z].map := by
    rw [State.demandOf, hneeds]
    rfl
  have hzero : needs = 0 → s.demandOf z = 0 := fun h => by
    rw [hdemand, h]
    rfl
  have hpositive : needs ≠ 0 →
      s.demandOf z = max least (min most (ceilDiv (needs * 5) eff)) := fun h => by
    rw [hdemand]
    exact powerFor_of_pos h heffPos (by omega)
  refine ⟨fun h => hzero (if_pos h), ⟨fun h => ?_, hzero⟩, fun h => ?_, ?_⟩
  · by_contra hne
    have hpower := hpositive hne
    omega
  · obtain ⟨hlow, hhigh, -⟩ := ceilDiv_bounds (n := needs * 5) (by omega) heffPos
    exact ⟨_, hlow, hhigh, hpositive h⟩
  · by_cases hne : needs = 0
    · exact .inl (hzero hne)
    · have hpower := hpositive hne
      exact .inr (by omega)

end Sys2Proof.Machine
end

section
/-! PROOFS. The line link's frames: CRC-8, responses, the billet snapshot, the frame checks and the
request frames (R172 to R175, section 11.8). -/

namespace Sys2Proof.Machine

/-! ## Fields of one, two and four bytes (section 11.3) -/

theorem byte_toNat (n : Nat) : (byte n).toNat = n % 256 := BitVec.toNat_ofNat n 8

/-- The value of bytes read most significant first. -/
def fieldValue (bytes : List Byte) : Nat := bytes.foldl (fun value b => value * 256 + b.toNat) 0

theorem fieldValue_byte (n : Nat) : fieldValue [byte n] = n % 256 := by
  simp [fieldValue, byte_toNat]

theorem fieldValue_bytes16 (n : Nat) : fieldValue (bytes16 n) = n % 65536 := by
  simp only [fieldValue, bytes16, List.foldl_cons, List.foldl_nil, byte_toNat]
  omega

theorem fieldValue_bytes32 (n : Nat) : fieldValue (bytes32 n) = n % 4294967296 := by
  simp only [fieldValue, bytes32, List.foldl_cons, List.foldl_nil, byte_toNat]
  omega

theorem fieldValue_bytesI16 (n : Int) : (fieldValue (bytesI16 n) : Int) = n % 65536 := by
  rw [bytesI16, fieldValue_bytes16]
  omega

/-! ## A transaction's bytes and the response frame (R174, R175) -/

theorem ShiftOut.bytes_length (o : ShiftOut) : o.bytes.length = o.clocked := by
  simp [ShiftOut.bytes]

/-- A transaction shifts out the response, then zeros. -/
theorem ShiftOut.bytes_getD (o : ShiftOut) {k : Nat} (hk : k < o.clocked) :
    o.bytes.getD k 0 = (o.response.elim [] Response.frame).getD k 0 := by
  rw [ShiftOut.bytes, List.getD_eq_getElem?_getD, List.getElem?_take_of_lt hk,
    List.getElem?_append]
  split
  · rw [List.getD_eq_getElem?_getD]
  · rename_i hbeyond
    rw [List.getD_eq_default _ _ (Nat.le_of_not_lt hbeyond), List.getElem?_replicate]
    split <;> rfl

theorem Snapshot.bytes_length (snap : Snapshot) : snap.bytes.length = 33 := rfl

theorem lastRetiredBytes_length (last : Option BilletRecord) :
    (lastRetiredBytes last).length = 33 := by
  cases last <;> rfl

theorem Payload.bytes_length_le (p : Payload) : p.bytes.length ≤ 1024 := by
  unfold Payload.bytes
  split
  · exact Nat.zero_le _
  · rw [Snapshot.bytes_length]
    omega
  · rw [List.length_append, lastRetiredBytes_length, List.length_take]
    omega
  · exact List.length_take_le _ _

theorem Status.code_lookup (status : Status) :
    [(Status.ok, 1), (.linkCrc, 2), (.badLength, 3), (.unknownRequest, 4), (.wrongMode, 5),
      (.wrongPlace, 6), (.noSuchTag, 7), (.tagInUse, 9), (.queueFull, 10), (.badValue, 12),
      (.recipeInUse, 13), (.busy, 14), (.notConfigured, 15), (.faultLatched, 16)].lookup status =
        some status.code := by
  cases status <;> rfl

theorem crc8_append (before : List Byte) (b : Byte) :
    crc8 (before ++ [b]) =
      (fun c : Byte => if c.msb then (c <<< 1) ^^^ 7 else c <<< 1)^[8] (crc8 before ^^^ b) := by
  rw [crc8, List.foldl_append]
  rfl

/-! ## The billet snapshot (section 11.8) -/

theorem Place.code_lt (p : Place) : p.code < 256 := by
  cases p <;> exact Nat.lt_of_sub_ne_zero (by simp [Place.code])

theorem BilletFlags.code_eq (f : BilletFlags) :
    f.code % 256 = (if f.marked then 1 else 0) + (if f.overheat then 2 else 0) +
      (if f.soakExceeded then 4 else 0) + (if f.stale then 8 else 0) := by
  obtain ⟨marked, overheat, soakExceeded, stale⟩ := f
  cases marked <;> cases overheat <;> cases soakExceeded <;> cases stale <;> rfl

theorem presence_bit {α : Type} (bit : Nat) (o : Option α) [Decidable (o = none)] :
    (if o = none then 0 else bit) = bit * o.isSome.toNat := by
  cases o <;> simp

theorem BilletOutcome.code_eq (o : BilletOutcome) :
    o.code % 256 = [BilletOutcome.forged, .rejectedCold, .rejectedHot, .rejectedFlagged,
      .rejectedCooled, .noReading, .transferLost, .transferUnknown, .pushedOff,
      .withdrawn].idxOf o + 1 := by
  cases o <;> rfl

/-- Where the fields stand in the snapshot. -/
theorem Snapshot.slices (snap : Snapshot) :
    (snap.bytes.drop 0).take 2 = bytes16 snap.record.tag ∧
      (snap.bytes.drop 2).take 4 = bytes32 snap.record.loadSeq ∧
      (snap.bytes.drop 6).take 1 = [byte snap.record.recipe.val] ∧
      (snap.bytes.drop 7).take 4 = bytes32 snap.record.mass ∧
      (snap.bytes.drop 11).take 1 = [byte snap.record.place.code] ∧
      (snap.bytes.drop 12).take 1 = [byte (snap.record.place.position.isSome.toNat +
        2 * snap.queueIndex.isSome.toNat + 4 * snap.record.measured.isSome.toNat +
        8 * snap.record.outcome.isSome.toNat)] ∧
      (snap.bytes.drop 13).take 1 = [byte (snap.record.place.position.getD 0)] ∧
      (snap.bytes.drop 14).take 1 = [byte (snap.queueIndex.getD 0)] ∧
      (snap.bytes.drop 15).take 2 = bytes16 snap.record.ts ∧
      (snap.bytes.drop 17).take 2 = bytes16 snap.record.tc ∧
      (snap.bytes.drop 19).take 2 = bytesI16 snap.record.targetOffset ∧
      (snap.bytes.drop 21).take 1 = [byte snap.record.flags.code] ∧
      (snap.bytes.drop 22).take 4 = bytes32 snap.record.energy ∧
      (snap.bytes.drop 26).take 2 = bytes16 snap.record.rowsRounds ∧
      (snap.bytes.drop 28).take 2 = bytes16 snap.record.soakRounds ∧
      (snap.bytes.drop 30).take 2 = bytes16 (snap.record.measured.getD 0) ∧
      (snap.bytes.drop 32).take 1 =
        [byte ((snap.record.outcome.map BilletOutcome.code).getD 0)] := by
  simp [Snapshot.bytes, bytes16, bytes32, bytesI16]

/-- Settles O6. -/
theorem nopFetchesTheResponse : Obligations.NopFetchesTheResponse := by
  unfold Obligations.NopFetchesTheResponse
  refine ⟨fun s c h => ?_, fun o => ⟨o.bytes_length, fun k hk => ?_⟩, ⟨rfl, crc8_append⟩,
    fun r => ⟨r.payload.bytes_length_le, r.status.code, r.status.code_lookup, rfl⟩,
    ⟨rfl, fun _ => rfl, fun last outcomes => ?_⟩, ?_⟩
  · refine (State.transaction_taking h fun s => s).trans (congrArg _ ?_)
    unfold State.settleFetch
    cases hbuffer : s.link.buffer with
    | none => rfl
    | some r => by_cases hwhole : r.frame.length ≤ c <;> simp [hwhole]
  · rw [o.bytes_getD hk]
    cases o.response <;> rfl
  · have htake : (Payload.bytes (.lastRetired last outcomes)).take 33 = lastRetiredBytes last :=
      List.take_left' (lastRetiredBytes_length last)
    rw [htake]
    cases last <;> rfl
  · intro snap r field position presence outcomes
    have hplace : r.place.position = position := by
      rfl
    have hpresence : (r.place.position.isSome.toNat + 2 * snap.queueIndex.isSome.toNat +
        4 * r.measured.isSome.toNat + 8 * r.outcome.isSome.toNat) % 256 = presence := by
      simp only [presence, presence_bit, ← hplace]
      have hbound := fun b : Bool => b.toNat_le
      have h1 := hbound r.place.position.isSome
      have h2 := hbound snap.queueIndex.isSome
      have h3 := hbound r.measured.isSome
      have h4 := hbound r.outcome.isSome
      omega
    have hfield : ∀ (start n : Nat) (l : List Byte), (snap.bytes.drop start).take n = l →
        field start n = fieldValue l := by
      rintro start n l rfl
      rfl
    have hbyte : ∀ start value : Nat, (snap.bytes.drop start).take 1 = [byte value] →
        field start 1 = value % 256 := fun start value h =>
      (hfield start 1 _ h).trans (fieldValue_byte value)
    have hword : ∀ start value : Nat, (snap.bytes.drop start).take 2 = bytes16 value →
        field start 2 = value % 65536 := fun start value h =>
      (hfield start 2 _ h).trans (fieldValue_bytes16 value)
    have hlong : ∀ start value : Nat, (snap.bytes.drop start).take 4 = bytes32 value →
        field start 4 = value % 4294967296 := fun start value h =>
      (hfield start 4 _ h).trans (fieldValue_bytes32 value)
    obtain ⟨htag, hseq, hrecipe, hmass, hcode, hpresent, hat, hindex, hts, htc, hoffset, hflags,
      henergy, hrows, hsoak, hmeasured, houtcome⟩ := snap.slices
    refine ⟨snap.bytes_length, hword 0 r.tag htag, hlong 2 r.loadSeq hseq, ?_, hlong 7 r.mass hmass,
      ?_, ?_, ?_, hbyte 14 _ hindex, hword 15 r.ts hts, hword 17 r.tc htc, ?_, ?_,
      hlong 22 r.energy henergy, hword 26 r.rowsRounds hrows, hword 28 r.soakRounds hsoak,
      hword 30 _ hmeasured, ?_⟩
    · exact (hbyte 6 _ hrecipe).trans (Nat.mod_eq_of_lt (by omega))
    · exact (hbyte 11 _ hcode).trans (Nat.mod_eq_of_lt r.place.code_lt)
    · exact (hbyte 12 _ hpresent).trans hpresence
    · exact (hbyte 13 _ hat).trans (by rw [hplace])
    · rw [hfield 19 2 (bytesI16 r.targetOffset) hoffset, fieldValue_bytesI16]
    · exact (hbyte 21 _ hflags).trans r.flags.code_eq
    · refine (hbyte 32 _ houtcome).trans ?_
      cases r.outcome with
      | none => rfl
      | some o => exact o.code_eq

end Sys2Proof.Machine
end

section
/-! PROOFS. The frame checks and the request frames (R172, R173, section 11.3). -/

namespace Sys2Proof.Machine

/-! ## The catalogue (section 11.3) -/

theorem payloadLength_of_not_named {code : Nat} (h : 24 < code) : payloadLength code = none := by
  obtain ⟨k, rfl⟩ := Nat.exists_eq_add_of_le' h
  rfl

/-- The catalogue's payload lengths, by their codes. -/
theorem payloadLength_eq (code : Nat) : payloadLength code =
    [0, 0, 9, 2, 1, 0, 6, 2, 1, 54, 1, 1, 13, 1, 2, 1, 1, 15, 0, 1, 0, 2, 2, 5, 0][code]? := by
  by_cases hnamed : 24 < code
  · rw [payloadLength_of_not_named hnamed, List.getElem?_eq_none]
    exact hnamed
  · have hall : ∀ code < 25, payloadLength code =
        [0, 0, 9, 2, 1, 0, 6, 2, 1, 54, 1, 1, 13, 1, 2, 1, 1, 15, 0, 1, 0, 2, 2, 5, 0][code]? := by
      decide
    exact hall code (by omega)

theorem payloadLength_le {code n : Nat} (h : payloadLength code = some n) :
    code ≤ 24 ∧ n ≤ 60 := by
  have hnamed : code ≤ 24 := by
    by_contra hbeyond
    rw [payloadLength_of_not_named (by omega)] at h
    cases h
  have hall : ∀ code < 25, ∀ n ∈ payloadLength code, n ≤ 60 := by decide
  exact ⟨hnamed, hall code (by omega) n h⟩

/-! ## The frame checks in their order (R173) -/

/-- A named request code with its payload makes a request. -/
theorem requestOf_ne_frameError {code : Nat} (h : code ≤ 24) (clocked : Nat) (p : List Byte)
    (check : FrameCheck) (c : Nat) : requestOf clocked code p ≠ .frameError check c := by
  have hmode : ∀ b, modeRequest clocked b ≠ .frameError check c := by
    intro b
    unfold modeRequest
    split <;> nofun
  interval_cases code
  -- code 19, the MODE request, stands twentieth
  pick_goal 20
  · exact hmode _
  all_goals nofun

/-- What a failed check leaves: its status without payload, its counter and LINK_ERROR. -/
theorem State.exec_frameError {s : State} {c : Nat} (h : s.Taking c) (check : FrameCheck) :
    exec (.frameError check c) s = .next { s with
      link := { (s.link.answered c ⟨frameStatus check, .none⟩).countFailure check with
        flags := s.link.flags ||| 512 } } := by
  have hexec : exec (.frameError check c) s = s.request c fun s => s.failFrame check := rfl
  have hlink := congrArg State.link (State.settleFetch_respond s c ⟨frameStatus check, .none⟩)
  rw [hexec, State.request_taking h]
  have hlinks : (((s.settleFetch c).failFrame check).2.respond
      ((s.settleFetch c).failFrame check).1).link =
        { (s.link.answered c ⟨frameStatus check, .none⟩).countFailure check with
          flags := s.link.flags ||| 512 } := by
    rw [← show _ = s.link.answered c ⟨frameStatus check, .none⟩ from hlink]
    cases check <;> rfl
  rw [← hlinks]
  cases check <;> rfl

/-- The frame checks as one chain, the catalogue read last. -/
theorem decodeFrame_eq (bytes : List Byte) :
    decodeFrame bytes =
      if bytes.length < 3 ∨ 60 < u8 bytes 1 ∨ bytes.length < u8 bytes 1 + 3 then
        .frameError .frameLength bytes.length
      else if bytes.getD (u8 bytes 1 + 2) 0 ≠ crc8 (bytes.take (u8 bytes 1 + 2)) then
        .frameError .crc bytes.length
      else if 24 < u8 bytes 0 then .frameError .requestCode bytes.length
      else if payloadLength (u8 bytes 0) ≠ some (u8 bytes 1) then
        .frameError .payloadLength bytes.length
      else requestOf bytes.length (u8 bytes 0) ((bytes.drop 2).take (u8 bytes 1)) := by
  have hchecks : (decide (bytes.length < 3) || decide (60 < u8 bytes 1) ||
      decide (bytes.length < u8 bytes 1 + 3)) = true ↔
        bytes.length < 3 ∨ 60 < u8 bytes 1 ∨ bytes.length < u8 bytes 1 + 3 := by
    simp [or_assoc]
  refine if_congr hchecks rfl (if_congr Iff.rfl rfl ?_)
  cases hpayload : payloadLength (u8 bytes 0) with
  | none =>
    rw [payloadLength_eq, List.getElem?_eq_none_iff] at hpayload
    rw [if_pos (show 24 < u8 bytes 0 from hpayload)]
  | some m =>
    have hnamed := (payloadLength_le hpayload).1
    rw [if_neg (by omega)]
    by_cases hsame : u8 bytes 1 = m
    · rw [if_neg (by simp [hsame])]
      exact if_pos hsame
    · rw [if_pos (by simpa [eq_comm] using hsame)]
      exact if_neg hsame

/-- Settles O5. -/
theorem frameChecksInOrder : Obligations.FrameChecksInOrder := by
  unfold Obligations.FrameChecksInOrder
  intro bytes s h code n lengths failed
  refine ⟨decodeFrame bytes, if_neg (Nat.ne_of_gt h.1), ?_⟩
  have hcode : u8 bytes 0 = code := rfl
  have hn : u8 bytes 1 = n := rfl
  rw [decodeFrame_eq, hcode, hn, payloadLength_eq]
  by_cases hlength : bytes.length < 3 ∨ 60 < n ∨ bytes.length < n + 3
  · rw [if_pos hlength, if_pos hlength]
    exact State.exec_frameError h .frameLength
  rw [if_neg hlength, if_neg hlength]
  by_cases hcrc : bytes.getD (n + 2) 0 ≠ crc8 (bytes.take (n + 2))
  · rw [if_pos hcrc, if_pos hcrc]
    exact State.exec_frameError h .crc
  rw [if_neg hcrc, if_neg hcrc]
  by_cases hnamed : 24 < code
  · rw [if_pos hnamed, if_pos hnamed]
    exact State.exec_frameError h .requestCode
  rw [if_neg hnamed, if_neg hnamed]
  by_cases hpayload : lengths[code]? ≠ some n
  · rw [if_pos hpayload, if_pos hpayload]
    exact State.exec_frameError h .payloadLength
  · rw [if_neg hpayload, if_neg hpayload]
    exact requestOf_ne_frameError (by omega) _ _

end Sys2Proof.Machine
end

section
/-! PROOFS. Every request's frame is decoded as that request (sections 11.3 and 11.8). -/

namespace Sys2Proof.Machine

/-! ## The frame (section 11.8) -/

/-- A frame that the catalogue names, with zeros after it, is read as its request. -/
theorem decodeTransaction_frame {c code : Nat} {p : List Byte}
    (hpayload : payloadLength code = some p.length) (hcarries : p.length + 3 ≤ c) :
    decodeTransaction (requestFrame code p ++
      List.replicate (c - (requestFrame code p).length) 0) = some (requestOf c code p) := by
  obtain ⟨hnamed, hshort⟩ := payloadLength_le hpayload
  obtain ⟨body, hbody⟩ : ∃ body, body = byte code :: byte p.length :: p := ⟨_, rfl⟩
  have hlength : body.length = p.length + 2 := by rw [hbody]; rfl
  have hframe : requestFrame code p = body ++ [crc8 body] := by rw [hbody]; rfl
  obtain ⟨bytes, hbytes⟩ : ∃ bytes, bytes = requestFrame code p ++
    List.replicate (c - (requestFrame code p).length) 0 := ⟨_, rfl⟩
  have htotal : bytes.length = c := by
    rw [hbytes, hframe]
    simp only [List.length_append, List.length_replicate, List.length_singleton, hlength]
    omega
  have hcode : u8 bytes 0 = code := by
    rw [hbytes, hframe, hbody]
    exact (byte_toNat code).trans (Nat.mod_eq_of_lt (by omega))
  have hn : u8 bytes 1 = p.length := by
    rw [hbytes, hframe, hbody]
    exact (byte_toNat p.length).trans (Nat.mod_eq_of_lt (by omega))
  have htake : bytes.take (p.length + 2) = body := by
    rw [hbytes, hframe, List.append_assoc, ← hlength]
    exact List.take_left
  have hcrc : bytes.getD (p.length + 2) 0 = crc8 body := by
    rw [hbytes, hframe, List.append_assoc, ← hlength, List.getD_append_right _ _ _ _ le_rfl,
      Nat.sub_self]
    rfl
  have hdrop : (bytes.drop 2).take p.length = p := by
    rw [hbytes, hframe, hbody]
    simp
  rw [← hbytes, decodeTransaction, if_neg (by omega), decodeFrame_eq, hcode, hn, htotal, hcrc,
    htake, hdrop, if_neg (by omega), if_neg (not_not.mpr rfl), if_neg (by omega),
    if_neg (not_not.mpr hpayload)]

/-! ## Payload fields, read back (section 11.3) -/

theorem carries_iff (payload c : Nat) : carries payload c = true ↔ payload + 3 ≤ c :=
  decide_eq_true_iff

/-- A byte on the wire is read back. -/
theorem read_byte {n : Nat} (h : isU8 n = true) : (byte n).toNat = n :=
  (byte_toNat n).trans (Nat.mod_eq_of_lt (of_decide_eq_true h))

/-- Two bytes on the wire are read back. -/
theorem read_bytes16 {n : Nat} (h : isU16 n = true) :
    256 * (byte (n / 256)).toNat + (byte n).toNat = n := by
  have hn : n < 65536 := of_decide_eq_true h
  rw [byte_toNat, byte_toNat]
  omega

/-- Four bytes on the wire are read back. -/
theorem read_bytes32 {n : Nat} (h : isU32 n = true) :
    65536 * (256 * (byte (n / 16777216)).toNat + (byte (n / 65536)).toNat) +
      (256 * (byte (n / 256)).toNat + (byte n).toNat) = n := by
  have hn : n < 4294967296 := of_decide_eq_true h
  simp only [byte_toNat]
  omega

/-- A signed field on the wire is read back. -/
theorem read_bytesI16 {n : Int} (h : isI16 n = true) (rest : List Byte) :
    i16 (bytesI16 n ++ rest) 0 = n := by
  obtain ⟨hlow, hhigh⟩ : -32768 ≤ n ∧ n ≤ 32767 := by simpa [isI16] using h
  have hword : u16 (bytesI16 n ++ rest) 0 = (n % 65536).toNat :=
    read_bytes16 (decide_eq_true (by omega))
  rw [i16, hword]
  split <;> omega

/-- A field behind other bytes is read from what follows it. -/
theorem u8_append (before rest : List Byte) (k : Nat) :
    u8 (before ++ rest) (before.length + k) = u8 rest k := by
  rw [u8, List.getD_append_right _ _ _ _ (Nat.le_add_right _ _), Nat.add_sub_cancel_left, u8]

theorem u16_append {before : List Byte} {n : Nat} (h : before.length = n) (rest : List Byte)
    (k : Nat) : u16 (before ++ rest) (n + k) = u16 rest k := by
  subst h
  rw [u16, u8_append, Nat.add_assoc, u8_append, u16]

/-- A list of two-byte fields is read back. -/
theorem u16_flatMap {words : List Nat} (hwords : words.all isU16 = true) (rest : List Byte)
    {k : Nat} (hk : k < words.length) :
    u16 (words.flatMap bytes16 ++ rest) (2 * k) = words[k] := by
  induction words generalizing k with
  | nil => cases hk
  | cons word words ih =>
    obtain ⟨hword, hrest⟩ := Bool.and_eq_true_iff.mp ((List.all_cons ..).symm.trans hwords)
    cases k with
    | zero => exact read_bytes16 hword
    | succ k =>
      have hword : (bytes16 word).length = 2 := rfl
      rw [List.flatMap_cons, List.append_assoc, Nat.mul_add_one, Nat.add_comm,
        u16_append hword, ih hrest (Nat.lt_of_succ_lt_succ hk), List.getElem_cons_succ]

theorem ZoneFields.read {f : ZoneFields} (h : f.onWire = true) (zone : Nat) :
    zoneFieldsAt ([byte zone] ++ f.bytes) = f := by
  obtain ⟨firstPos, lastPos, maxKW, minKW, level, enabled, band⟩ := f
  simp only [ZoneFields.onWire, Bool.and_eq_true] at h
  obtain ⟨⟨⟨⟨⟨⟨hfirst, hlast⟩, hmax⟩, hmin⟩, hlevel⟩, henabled⟩, hband⟩ := h
  rw [zoneFieldsAt, ZoneFields.mk.injEq]
  exact ⟨read_bytes16 hfirst, read_bytes16 hlast, read_bytes16 hmax, read_bytes16 hmin,
    read_bytes16 hlevel, read_byte henabled, read_byte hband⟩

theorem LineFields.read {f : LineFields} (h : f.onWire = true) (parts : Nat) :
    lineFieldsAt ([byte parts] ++ f.bytes) = f := by
  obtain ⟨feederLimit, nominalCadence, queueLow, tAmb, holdDelay, transferTimeout, window⟩ := f
  simp only [LineFields.onWire, Bool.and_eq_true] at h
  obtain ⟨⟨⟨⟨⟨⟨hlimit, hcadence⟩, hqueue⟩, hamb⟩, hdelay⟩, htimeout⟩, hwindow⟩ := h
  rw [lineFieldsAt, LineFields.mk.injEq]
  exact ⟨read_bytes16 hlimit, read_bytes16 hcadence, read_bytes16 hqueue, read_bytes16 hamb,
    read_bytes16 hdelay, read_bytes16 htimeout, read_bytes16 hwindow⟩

theorem EdgeFields.read {f : EdgeFields} (h : f.onWire = true) : edgeFieldsAt f.bytes = f := by
  obtain ⟨pushFwd, pushHome, take, pressDone, chuteDone⟩ := f
  simp only [EdgeFields.onWire, Bool.and_eq_true] at h
  obtain ⟨⟨⟨⟨hfwd, hhome⟩, htake⟩, hpress⟩, hchute⟩ := h
  rw [edgeFieldsAt, EdgeFields.mk.injEq]
  exact ⟨read_byte hfwd, read_byte hhome, read_byte htake, read_byte hpress, read_byte hchute⟩

theorem RecipeFields.read {f : RecipeFields} (h : f.onWire = true) (recipe validity : Nat) :
    recipeFieldsAt ([byte recipe, byte validity] ++ f.bytes) = f := by
  obtain ⟨cp, sLow, sHigh, equalization, loss, zoneTarget, holdTemp, exitTarget, tolLow, tolHigh,
    tsMax, gradMax, maxSoak, maxWait, adaptGain⟩ := f
  simp only [RecipeFields.onWire, Bool.and_eq_true] at h
  obtain ⟨⟨⟨⟨⟨⟨⟨⟨⟨⟨⟨⟨⟨⟨hcp, hlow⟩, hhigh⟩, hequal⟩, hloss⟩, htarget⟩, hhold⟩, hexit⟩, htolLow⟩,
    htolHigh⟩, htsMax⟩, hgrad⟩, hsoak⟩, hwait⟩, hgain⟩ := h
  have hlength : (zoneTarget.toList.flatMap bytes16).length = 24 := by
    simp [bytes16]
  obtain ⟨head, hhead⟩ : ∃ head, head = [byte recipe, byte validity] ++ bytes16 cp ++
    bytes16 sLow ++ bytes16 sHigh ++ bytes16 equalization ++ bytes16 loss := ⟨_, rfl⟩
  obtain ⟨tail, htail⟩ : ∃ tail, tail = bytes16 holdTemp ++ bytes16 exitTarget ++ bytes16 tolLow ++
    bytes16 tolHigh ++ bytes16 tsMax ++ bytes16 gradMax ++ bytes16 maxSoak ++ bytes16 maxWait ++
    bytes16 adaptGain := ⟨_, rfl⟩
  have hsplit : [byte recipe, byte validity] ++ RecipeFields.bytes ⟨cp, sLow, sHigh, equalization,
      loss, zoneTarget, holdTemp, exitTarget, tolLow, tolHigh, tsMax, gradMax, maxSoak, maxWait,
      adaptGain⟩ = head ++ (zoneTarget.toList.flatMap bytes16 ++ tail) := by
    simp only [hhead, htail, RecipeFields.bytes, List.append_assoc]
  have hheadLength : head.length = 12 := by rw [hhead]; rfl
  have hmiddle : ∀ k, u16 (head ++ (zoneTarget.toList.flatMap bytes16 ++ tail)) (12 + k) =
      u16 (zoneTarget.toList.flatMap bytes16 ++ tail) k := fun k => u16_append hheadLength _ k
  have hlast : ∀ k, u16 (head ++ (zoneTarget.toList.flatMap bytes16 ++ tail)) (36 + k) =
      u16 tail k := by
    intro k
    rw [show 36 + k = 12 + (24 + k) by omega, hmiddle, u16_append hlength]
  have htargets : (Vector.ofFn fun z : ZoneId =>
      u16 (head ++ (zoneTarget.toList.flatMap bytes16 ++ tail)) (12 + 2 * z.val)) = zoneTarget := by
    ext1 k hk
    rw [Vector.getElem_ofFn, hmiddle, u16_flatMap htarget _ (by simpa using hk)]
    simp
  rw [hsplit, recipeFieldsAt, RecipeFields.mk.injEq]
  refine ⟨?_, ?_, ?_, ?_, ?_, htargets, (hlast 0).trans ?_, (hlast 2).trans ?_, (hlast 4).trans ?_,
    (hlast 6).trans ?_, (hlast 8).trans ?_, (hlast 10).trans ?_, (hlast 12).trans ?_,
    (hlast 14).trans ?_, (hlast 16).trans ?_⟩
  all_goals subst hhead htail
  · exact read_bytes16 hcp
  · exact read_bytes16 hlow
  · exact read_bytes16 hhigh
  · exact read_bytes16 hequal
  · exact read_bytes16 hloss
  · exact read_bytes16 hhold
  · exact read_bytes16 hexit
  · exact read_bytes16 htolLow
  · exact read_bytes16 htolHigh
  · exact read_bytes16 htsMax
  · exact read_bytes16 hgrad
  · exact read_bytes16 hsoak
  · exact read_bytes16 hwait
  · exact read_bytes16 hgain

/-! ## The requests -/

/-- A request whose code and payload are read back is decoded from its transaction. -/
theorem decodeTransaction_of_read {i : Instr} {c code : Nat} {p bytes : List Byte}
    (hbytes : encodeRequest i = some bytes) (hparts : requestParts i = some (c, code, p))
    (hpayload : payloadLength code = some p.length) (hcarries : carries p.length c = true)
    (hread : requestOf c code p = i) : decodeTransaction bytes = some i := by
  rw [encodeRequest, hparts] at hbytes
  cases hbytes
  rw [← hread]
  exact decodeTransaction_frame hpayload ((carries_iff _ _).mp hcarries)

/-- The MODE request whose action byte names no action (R151). -/
theorem modeStart_decodes {c : Nat} {unnamed : Option Nat} {bytes : List Byte}
    (h : wellFormed (.modeStart c unnamed) = true)
    (hbytes : encodeRequest (.modeStart c unnamed) = some bytes) :
    decodeTransaction bytes = some (.modeStart c unnamed) := by
  obtain ⟨hc, hunnamed⟩ := Bool.and_eq_true_iff.mp h
  cases unnamed with
  | none => exact decodeTransaction_of_read hbytes rfl rfl hc rfl
  | some b =>
    obtain ⟨hlow, hhigh⟩ : 8 ≤ b ∧ b < 256 := by simpa [unnamedAction] using hunnamed
    refine decodeTransaction_of_read hbytes rfl rfl hc ?_
    have hread : (byte b).toNat = b := read_byte (decide_eq_true hhigh)
    have hmode : modeRequest c b = .modeStart c (some b) := by
      obtain ⟨k, rfl⟩ := Nat.exists_eq_add_of_le' hlow
      rfl
    exact (congrArg (modeRequest c) hread).trans hmode

/-- Settles O4. -/
theorem requestFramesDecodeBack : Obligations.RequestFramesDecodeBack := by
  unfold Obligations.RequestFramesDecodeBack
  intro i bytes h hbytes
  cases i with
  | nop c => exact decodeTransaction_of_read hbytes rfl rfl h rfl
  | readStatus c => exact decodeTransaction_of_read hbytes rfl rfl h rfl
  | queryRow c => exact decodeTransaction_of_read hbytes rfl rfl h rfl
  | readLine c => exact decodeTransaction_of_read hbytes rfl rfl h rfl
  | tuneAll c => exact decodeTransaction_of_read hbytes rfl rfl h rfl
  | restart c => exact decodeTransaction_of_read hbytes rfl rfl h rfl
  | modeStart c unnamed => exact modeStart_decodes h hbytes
  | modeHold c => exact decodeTransaction_of_read hbytes rfl rfl h rfl
  | modeResume c => exact decodeTransaction_of_read hbytes rfl rfl h rfl
  | modeDrain c => exact decodeTransaction_of_read hbytes rfl rfl h rfl
  | modeTrip c => exact decodeTransaction_of_read hbytes rfl rfl h rfl
  | modeClearTrip c => exact decodeTransaction_of_read hbytes rfl rfl h rfl
  | modeService c => exact decodeTransaction_of_read hbytes rfl rfl h rfl
  | modeLeaveService c => exact decodeTransaction_of_read hbytes rfl rfl h rfl
  | queryPosition c position =>
    obtain ⟨hc, hposition⟩ := Bool.and_eq_true_iff.mp h
    exact decodeTransaction_of_read hbytes rfl rfl hc
      (congrArg (Instr.queryPosition c) (read_byte hposition))
  | readLastRetired c clear =>
    obtain ⟨hc, hclear⟩ := Bool.and_eq_true_iff.mp h
    exact decodeTransaction_of_read hbytes rfl rfl hc
      (congrArg (Instr.readLastRetired c) (read_byte hclear))
  | readRecipe c recipe =>
    obtain ⟨hc, hrecipe⟩ := Bool.and_eq_true_iff.mp h
    exact decodeTransaction_of_read hbytes rfl rfl hc
      (congrArg (Instr.readRecipe c) (read_byte hrecipe))
  | resetBias c selection =>
    obtain ⟨hc, hselection⟩ := Bool.and_eq_true_iff.mp h
    exact decodeTransaction_of_read hbytes rfl rfl hc
      (congrArg (Instr.resetBias c) (read_byte hselection))
  | readZone c zone =>
    obtain ⟨hc, hzone⟩ := Bool.and_eq_true_iff.mp h
    exact decodeTransaction_of_read hbytes rfl rfl hc
      (congrArg (Instr.readZone c) (read_byte hzone))
  | clearZoneFault c zone =>
    obtain ⟨hc, hzone⟩ := Bool.and_eq_true_iff.mp h
    exact decodeTransaction_of_read hbytes rfl rfl hc
      (congrArg (Instr.clearZoneFault c) (read_byte hzone))
  | setRowLength c value =>
    obtain ⟨hc, hvalue⟩ := Bool.and_eq_true_iff.mp h
    exact decodeTransaction_of_read hbytes rfl rfl hc
      (congrArg (Instr.setRowLength c) (read_byte hvalue))
  | queryBillet c tag =>
    obtain ⟨hc, htag⟩ := Bool.and_eq_true_iff.mp h
    exact decodeTransaction_of_read hbytes rfl rfl hc
      (congrArg (Instr.queryBillet c) (read_bytes16 htag))
  | withdrawBillet c tag =>
    obtain ⟨hc, htag⟩ := Bool.and_eq_true_iff.mp h
    exact decodeTransaction_of_read hbytes rfl rfl hc
      (congrArg (Instr.withdrawBillet c) (read_bytes16 htag))
  | ackAttention c flagSet =>
    obtain ⟨hc, hset⟩ := Bool.and_eq_true_iff.mp h
    exact decodeTransaction_of_read hbytes rfl rfl hc
      (congrArg (Instr.ackAttention c) (read_bytes16 hset))
  | setMasks c maskSet =>
    obtain ⟨hc, hset⟩ := Bool.and_eq_true_iff.mp h
    exact decodeTransaction_of_read hbytes rfl rfl hc
      (congrArg (Instr.setMasks c) (read_bytes16 hset))
  | setZoneBand c zone band =>
    simp only [wellFormed, Bool.and_eq_true] at h
    obtain ⟨⟨hc, hzone⟩, hband⟩ := h
    exact decodeTransaction_of_read hbytes rfl rfl hc
      (congr (congrArg (Instr.setZoneBand c) (read_byte hzone)) (read_byte hband))
  | loadBillet c tag recipe mass initial =>
    simp only [wellFormed, Bool.and_eq_true] at h
    obtain ⟨⟨⟨⟨hc, htag⟩, hrecipe⟩, hmass⟩, hinitial⟩ := h
    refine decodeTransaction_of_read hbytes rfl rfl hc ?_
    rw [requestOf, Instr.loadBillet.injEq]
    exact ⟨rfl, read_bytes16 htag, read_byte hrecipe, read_bytes32 hmass, read_bytes16 hinitial⟩
  | amendBillet c tag parts offset recipe =>
    simp only [wellFormed, Bool.and_eq_true] at h
    obtain ⟨⟨⟨⟨hc, htag⟩, hparts⟩, hoffset⟩, hrecipe⟩ := h
    refine decodeTransaction_of_read hbytes rfl rfl hc ?_
    rw [requestOf, Instr.amendBillet.injEq]
    exact ⟨rfl, read_bytes16 htag, read_byte hparts, read_bytesI16 hoffset [byte recipe],
      read_byte hrecipe⟩
  | writeRecipe c recipe validity fields =>
    simp only [wellFormed, Bool.and_eq_true] at h
    obtain ⟨⟨⟨hc, hrecipe⟩, hvalidity⟩, hfields⟩ := h
    have hlength : payloadLength 9 = some ([byte recipe, byte validity] ++ fields.bytes).length :=
      Laws.PayloadLength.writeRecipe c recipe validity fields _ _ _ rfl
    have hc' : carries ([byte recipe, byte validity] ++ fields.bytes).length c = true := by
      rwa [← Option.some_inj.mp hlength]
    refine decodeTransaction_of_read hbytes rfl hlength hc' ?_
    rw [requestOf, Instr.writeRecipe.injEq]
    exact ⟨rfl, read_byte hrecipe, read_byte hvalidity, RecipeFields.read hfields _ _⟩
  | setZone c zone fields =>
    simp only [wellFormed, Bool.and_eq_true] at h
    obtain ⟨⟨hc, hzone⟩, hfields⟩ := h
    exact decodeTransaction_of_read hbytes rfl rfl hc
      (congr (congrArg (Instr.setZone c) (read_byte hzone)) (ZoneFields.read hfields _))
  | setLine c parts fields =>
    simp only [wellFormed, Bool.and_eq_true] at h
    obtain ⟨⟨hc, hparts⟩, hfields⟩ := h
    exact decodeTransaction_of_read hbytes rfl rfl hc
      (congr (congrArg (Instr.setLine c) (read_byte hparts)) (LineFields.read hfields _))
  | setEdges c fields =>
    obtain ⟨hc, hfields⟩ := Bool.and_eq_true_iff.mp h
    exact decodeTransaction_of_read hbytes rfl rfl hc
      (congrArg (Instr.setEdges c) (EdgeFields.read hfields))
  | _ => nomatch hbytes

end Sys2Proof.Machine
end
